-- ==== Sys2Proof/Word.lean ====
section
/-! DEFINITION. The machine word, the byte, and the two narrowings of rule R9 (00_scope.md). -/

namespace Sys2Proof

/-- A machine word, 16 bits (R6 C-1, R8). -/
abbrev Word := BitVec 16

/-- A byte, 8 bits (R8, R9). -/
abbrev Byte := BitVec 8

/-- `u16(v)`: the low 16 bits of an exact value (R9, decision D5). -/
def u16 (v : Int) : Word := BitVec.ofInt 16 v

/-- `s16(w)`: the word read as a signed integer (R9). -/
def s16 (w : Word) : Int := w.toInt

/-- The word read as an address, 0..65535 (R9 `adr`). -/
def adr (w : Word) : Int := (w.toNat : Int)

end Sys2Proof
end

