-- ==== Sys2Proof/Config.lean ====
section
/-! DEFINITION. What an implementation of EM-1 fixes (R7), and the free values and free functions of the model:
opaque constants with no body, of which nothing can be proved. -/

namespace Sys2Proof

/-! ## Parameters the spec fixes to the Appendix 1 value (R7) -/

/-- Bytes of a mark block (R7, decision D3). -/
def Config.mrksize : Int := 6
/-- Distance of the static link below LB (R7, R69). -/
def Config.statd : Int := 6
/-- Distance of the dynamic link below LB (R7, R69). -/
def Config.dynd : Int := 4
/-- Distance of the return address below LB (R7, R69). -/
def Config.reta : Int := 2
/-- Bytes of a procedure descriptor (R7, R73, decision D4). -/
def Config.pdsiz : Nat := 4
/-- Offset of the parameter byte count in a procedure descriptor (R73). -/
def Config.pdargs : Nat := 0
/-- Offset of the base address in a procedure descriptor (R73). -/
def Config.pdbase : Nat := 2
/-- The "undefined" word pattern, -32768 (R10). -/
def Config.undef : Int := -32768
/-- First primary opcode that means CAL in the alternate context (R107). -/
def Config.cutoff : Nat := 134
/-- The procedure number that asks for default error handling, the word -2 (R29, decision D8). -/
def Config.defaultProc : Word := 65534#16

/-- The two sizes the architecture leaves open (R7, decision D2): the highest byte address of each space. -/
structure Params where
  maxcode : Nat
  maxdata : Nat
  deriving DecidableEq, Repr

/-- The constraints decision D2 puts on the sizes. -/
def Params.wf (p : Params) : Bool :=
  p.maxdata % 2 == 1 && decide (p.maxdata ≤ 65533) && decide (p.maxcode ≤ 65535)

/-- The values of the Appendix 1 interpreter (R7). DESIGN CHOICE, log entry 1: State.reset takes them. -/
def Params.appendix1 : Params := { maxcode := 8191, maxdata := 8191 }

/-! ## Free values -/

/-- The n-th unconstrained word: the result of a shift or rotate by a count outside 0..15 (decision D15) and the
words CFD pushes after ECFD (R276). Log entries 4 and 10. -/
opaque Config.freeWord : Nat → Word

/-! ## Double precision integers (R244, decision D10; log entries 5 and 6) -/

/-- The operations of the parameter arithmetic `DoubleOps` (R244 to R247). The results of DDV and DMD are not free:
decision D10 fixes them. -/
inductive DoubleOp where
  | dad | dsb | dmu
  deriving DecidableEq, Repr

/-- `DblDecode`: the double held by two words (lower address first), none for the undefined double. -/
opaque Config.dblDecode : Word → Word → Option Int
/-- What an undefined double counts as after a non-fatal EDUND. -/
opaque Config.dblUndefined : Word → Word → Int
/-- `DblEncode`: the two words of a double (lower address first). -/
opaque Config.dblEncode : Int → Word × Word
/-- `DoubleOps`: what the parameter arithmetic gives for an operation on two doubles whose exact result is the last
argument. -/
opaque Config.dblResult : DoubleOp → Int → Int → Int → Int
/-- Whether the parameter arithmetic reports a result outside the double range, for an operation on two doubles
(decision D27). -/
opaque Config.dblReport : DoubleOp → Int → Int → Bool

/-! ## Reals (R244, decision D10; log entries 7 to 9) -/

/-- The operations of the parameter arithmetic `FloatOps` (R244); `fif` is the product FIF splits. -/
inductive FloatOp where
  | fad | fsb | fmu | fdv | fif
  deriving DecidableEq, Repr

/-- The conditions parameter arithmetic may report (decision D27). -/
inductive FloatTrap where
  | overflow    -- EFOVFL
  | underflow   -- EFUNFL
  | hardware    -- EFPP
  deriving DecidableEq, Repr

/-- `FltDecode`: the real held by two words, none for the undefined real. -/
opaque Config.fltDecode : Word → Word → Option Rat
/-- What an undefined real counts as after a non-fatal EFUND. -/
opaque Config.fltUndefined : Word → Word → Rat
/-- `FltEncode`: the two words of a real (lower address first). -/
opaque Config.fltEncode : Rat → Word × Word
/-- `FloatOps`: what the parameter arithmetic gives for an operation on two reals whose exact result is the last
argument (its rounding). -/
opaque Config.fltResult : FloatOp → Rat → Rat → Rat → Rat
/-- The conditions the parameter arithmetic reports for an operation on two reals. -/
opaque Config.fltReport : FloatOp → Rat → Rat → List FloatTrap
/-- Whether splitting a real into fraction and exponent reports a hardware error (R411 row 20). -/
opaque Config.fefReport : Rat → Bool
/-- The two words FDV pushes for a dividend after EFDIVZ (R253: "the parameter's choice"; log entry 9). -/
opaque Config.fltDivByZero : Rat → Word × Word

/-! ## Loading (R176, R451 step 8; log entry 17) -/

/-- `readdouble`: the double of a (most, least significant) word pair in the load file. -/
opaque Config.dblFromLoad : Word → Word → Int
/-- `readreal`: the real of a character string in the load file. -/
opaque Config.fltFromString : List Byte → Rat

/-! ## The host (R400, decision D11; log entries 11 to 15) -/

/-- The host's answer to one monitor call. -/
structure MonAnswer where
  /-- R0, where the call has one and succeeds. -/
  r0 : Word
  /-- R1, where the call has one. -/
  r1 : Word
  /-- Whether the call succeeds. -/
  ok : Bool
  /-- The host's error number, used when the call fails (0 is no error number and is read as 1). -/
  err : Word
  /-- What the host stores in the buffer the call names, first byte first. -/
  bytes : List Byte
  /-- The host's state after the call (R400 `hoststate'`), numbered. -/
  host : Nat
  deriving DecidableEq, Repr, Inhabited

/-- `MonHost` (R400): the answer of the host in a state (numbered) to a call: code, parameters, data memory. -/
opaque Config.monHost : Nat → Nat → List Word → List Host.Cell → MonAnswer
/-- Whether a signed word is a signal number of the host (R405). -/
opaque Config.isSignal : Word → Bool
/-- The host's default action for a signal: stop the machine with a number, or nothing (R406). -/
opaque Config.signalDefault : Word → Option Byte

end Sys2Proof
end

