-- ==== Sys2Proof/Syntax.lean ====
section
/-! DEFINITION. The instructions: one constructor for every mnemonic of spec/opcode_table.json. All encodings of one
instruction and operand are one term (R117). The operand `k` is the value after the scaling of R106 (R200). -/

namespace Sys2Proof

/-- The instructions of EM-1 (30_encoding.md R112), the escape prefix standing alone (R103) and the unassigned
escaped opcodes (R115). -/
inductive Instr where
  /-- AAR (R310): Load address of array element -/
  | aar (k : Int)
  /-- AAS (R311): Load address; first pop pointer to descriptor from stack -/
  | aas
  /-- ADD (R236): Addition  -/
  | add
  /-- ADI (R260): Add the constant m to pointer on top of stack -/
  | adi (k : Int)
  /-- AND (R286): Boolean and on two groups of p bytes -/
  | and (k : Int)
  /-- ANS (R287): Boolean and; number of bytes is first popped from stack -/
  | ans
  /-- BEG (R366): Begin procedure (reserve z bytes for locals) -/
  | beg (k : Int)
  /-- BEQ (R335): Forward branch equal -/
  | beq (k : Int)
  /-- BES (R367): Like BEG, except first pop z from stack -/
  | bes
  /-- BGE (R337): Forward branch greater or equal -/
  | bge (k : Int)
  /-- BGT (R338): Forward branch greater -/
  | bgt (k : Int)
  /-- BLE (R334): Forward branch less or equal -/
  | ble (k : Int)
  /-- BLM (R368): Block move x bytes; first pop destination addr, then source addr -/
  | blm (k : Int)
  /-- BLS (R369): Block move; like BLM, except first pop x, then addresses -/
  | bls
  /-- BLT (R333): Forward branch less (pop 2 words, branch if top > second) -/
  | blt (k : Int)
  /-- BNE (R336): Forward branch not equal -/
  | bne (k : Int)
  /-- BRB (R332): Branch backward unconditionally n bytes -/
  | brb (k : Int)
  /-- BRF (R331): Branch forward unconditionally n bytes -/
  | brf (k : Int)
  /-- CAL (R355): Call procedure (with descriptor n) -/
  | cal (k : Int)
  /-- CAS (R356): Call indirect; first pop procedure number from stack -/
  | cas
  /-- CDI (R272): Convert double to integer  -/
  | cdi
  /-- CDF (R275): Convert double to floating  -/
  | cdf
  /-- CFD (R276): Convert floating to double  -/
  | cfd
  /-- CFI (R274): Convert floating to integer  -/
  | cfi
  /-- CID (R271): Convert integer to double  -/
  | cid
  /-- CIF (R273): Convert integer to floating  -/
  | cif
  /-- CMD (R314): Compare 2 double integers -/
  | cmd
  /-- CMF (R315): Compare 2 reals -/
  | cmf
  /-- CMI (R313): "Compare 2 integers -/
  | cmi
  /-- CMP (R316): Compare 2 pointers -/
  | cmp
  /-- CMS (R319): Compare 2 blocks of bytes; pop byte count -/
  | cms
  /-- CMU (R318): Compare 2 blocks of p bytes each -/
  | cmu (k : Int)
  /-- COM (R292): Complement (one's complement of top p bytes) -/
  | com (k : Int)
  /-- COS (R293): Complement; first pop number of bytes from stack -/
  | cos
  /-- CSA (R370): Case jump; address of jump table at top of stack -/
  | csa
  /-- CSB (R371): Table lookup jump; address of jump table at top of stack -/
  | csb
  /-- DAD (R245): Double add  -/
  | dad
  /-- DDV (R248): Double Divide  -/
  | ddv
  /-- DEC (R266): Decrement top of stack by 1  -/
  | dec
  /-- DEE (R268): Decrement external  -/
  | dee (k : Int)
  /-- DEL (R267): Decrement local  -/
  | del (k : Int)
  /-- DIV (R239): Division  -/
  | div
  /-- DMD (R249): Double Modulo  -/
  | dmd
  /-- DMU (R247): Double Multiply  -/
  | dmu
  /-- DSB (R246): Double Subtract  -/
  | dsb
  /-- DUP (R372): Duplicate top p bytes -/
  | dup (k : Int)
  /-- DUS (R373): Like DUP, except first pop p -/
  | dus
  /-- EXG (R374): Exchange top 2 words -/
  | exg
  /-- FAD (R250): Floating add  -/
  | fad
  /-- FDV (R253): Floating divide  -/
  | fdv
  /-- FEF (R255): Split floating number in exponent and fraction part  -/
  | fef
  /-- FIF (R254): Floating multiply and split integer and fraction part  -/
  | fif
  /-- FMU (R252): Floating multiply  -/
  | fmu
  /-- FSB (R251): Floating subtract  -/
  | fsb
  /-- HLT (R375): Halt the machine (Exit status on the stack) -/
  | hlt
  /-- INC (R263): Increment top of stack by 1  -/
  | inc
  /-- INE (R265): Increment external  -/
  | ine (k : Int)
  /-- INL (R264): Increment local  -/
  | inl (k : Int)
  /-- INN (R297): Bit test on p byte set (bit number on top of stack) -/
  | inn (k : Int)
  /-- INS (R298): Bit test; first pop set size, then bit number -/
  | ins
  /-- IOR (R288): Boolean inclusive or on two groups of p bytes -/
  | ior (k : Int)
  /-- IOS (R289): Boolean inclusive or; nr of bytes is first popped from stack -/
  | ios
  /-- LAE (R209): Load address of external -/
  | lae (k : Int)
  /-- LAI (R206): Load auto increment y bytes (address of pointer on stack) -/
  | lai (k : Int)
  /-- LAL (R208): Load address of local -/
  | lal (k : Int)
  /-- LAR (R306): Load array element -/
  | lar (k : Int)
  /-- LAS (R307): Load array element; first pop ptr to descriptor from stack -/
  | las
  /-- LDE (R214): Load double external (two consecutive externals are stacked) -/
  | lde (k : Int)
  /-- LDF (R215): Load double offsetted (top of stack + m yield address) -/
  | ldf (k : Int)
  /-- LDL (R213): Load double local (two consecutive locals are stacked) -/
  | ldl (k : Int)
  /-- LEX (R210): "Load lexical -/
  | lex (k : Int)
  /-- LIN (R376): Line number (external 0 := n) -/
  | lin (k : Int)
  /-- LNC (R202): Load negative constant -/
  | lnc (k : Int)
  /-- LNI (R377): Line number increment -/
  | lni
  /-- LOC (R201): "Load constant (i.e -/
  | loc (k : Int)
  /-- LOE (R204): Load external word x -/
  | loe (k : Int)
  /-- LOF (R207): "Load offsetted -/
  | lof (k : Int)
  /-- LOI (R211): Load indirect y bytes (address is popped from the stack) -/
  | loi (k : Int)
  /-- LOL (R203): Load local word x -/
  | lol (k : Int)
  /-- LOP (R205): Load word pointed to by x-th local -/
  | lop (k : Int)
  /-- LOR (R378): Load register (0=LB, 1=SP, 2=HP) -/
  | lor (k : Int)
  /-- LOS (R212): Load indirect (pop byte count, address; count is 1 or even) -/
  | los
  /-- LSA (R398): no EM-1 semantics -/
  | lsa (k : Int)
  /-- MOD (R240): "Modulo i.e -/
  | mod
  /-- MON (R379): Monitor call -/
  | mon
  /-- MRK (R351): Mark stack (n = change in static depth of nesting - 1) -/
  | mrk (k : Int)
  /-- MRS (R352): Mark stack; first pop the static link from the stack -/
  | mrs
  /-- MRX (R353): Mark stack, immediate, alternate context -/
  | mrx (k : Int)
  /-- MUL (R238): Multiplication  -/
  | mul
  /-- MXS (R354): Mark stack, stacked, alternate context -/
  | mxs
  /-- NEG (R241): Negate (two's complement)  -/
  | neg
  /-- NOP (R380): No operation -/
  | nop
  /-- PAD (R261): Pointer add; pop integer, then pointer, push sum as pointer -/
  | pad
  /-- PSB (R262): Subtract two pointers (in same fragment) and push diff as integer -/
  | psb
  /-- RCK (R381): Range check; descriptor at (external) x; trap on error -/
  | rck (k : Int)
  /-- RCS (R382): Like RCK, except first pop x from stack -/
  | rcs
  /-- RES (R358): Like RET, but size of result on top of stack -/
  | res
  /-- RET (R357): Return (function result consists of top x bytes) -/
  | ret (k : Int)
  /-- ROL (R294): Rotate left -/
  | rol
  /-- ROR (R295): Rotate right -/
  | ror
  /-- RTT (R383): Return from trap -/
  | rtt
  /-- SAI (R223): Store auto increment y bytes (address of pointer on stack) -/
  | sai (k : Int)
  /-- SAR (R308): Store array element -/
  | sar (k : Int)
  /-- SAS (R309): Store array element; first pop ptr to descriptor from stack -/
  | sas
  /-- SDE (R228): Store double external -/
  | sde (k : Int)
  /-- SDF (R229): Store double offsetted -/
  | sdf (k : Int)
  /-- SDL (R227): Store double local -/
  | sdl (k : Int)
  /-- SES (R300): Create singleton set; first pop set size, then bit number -/
  | ses
  /-- SET (R299): Create singleton p byte set with bit n on (n is top of stack) -/
  | xset (k : Int)
  /-- SHL (R242): Shift left  -/
  | shl
  /-- SHR (R243): Shift right  -/
  | shr
  /-- SIG (R384): "Trap errors to proc nr on top of stack (-2 resets default) -/
  | sig
  /-- STE (R221): Store external -/
  | ste (k : Int)
  /-- STF (R224): Store offsetted -/
  | stf (k : Int)
  /-- STI (R225): Store indirect y bytes (pop address, then data) -/
  | sti (k : Int)
  /-- STL (R220): Store local -/
  | stl (k : Int)
  /-- STP (R222): Store into word pointed to by x-th local -/
  | stp (k : Int)
  /-- STR (R385): Store register (0=LB, 1=SP, 2=HP) -/
  | str (k : Int)
  /-- STS (R226): Store indirect (pop byte count, then address, then data) -/
  | sts
  /-- SUB (R237): Subtraction  -/
  | sub
  /-- TEQ (R322): "True if equal, i.e -/
  | teq
  /-- TGE (R324): "True if greater or equal, i.e -/
  | tge
  /-- TGT (R325): "True if greater, i.e -/
  | tgt
  /-- TLE (R321): "True if less or equal, i.e -/
  | tle
  /-- TLT (R320): "True if less, i.e -/
  | tlt
  /-- TNE (R323): "True if not equal, i.e -/
  | tne
  /-- TRP (R386): Cause trap to occur (Error number on stack) -/
  | trp
  /-- XOR (R290): Boolean exclusive or on two groups of p bytes -/
  | xor (k : Int)
  /-- XOS (R291): Boolean exclusive or; nr of bytes is first popped from stack -/
  | xos
  /-- ZEQ (R341): Forward branch equal zero -/
  | zeq (k : Int)
  /-- ZGE (R343): Forward branch greater or equal zero -/
  | zge (k : Int)
  /-- ZGT (R344): Forward branch greater than zero -/
  | zgt (k : Int)
  /-- ZLE (R340): Forward branch less or equal to zero -/
  | zle (k : Int)
  /-- ZLT (R339): Forward branch less than zero (pop 1 word, branch negative) -/
  | zlt (k : Int)
  /-- ZNE (R342): Forward branch not zero -/
  | zne (k : Int)
  /-- ZRE (R270): Zero external -/
  | zre (k : Int)
  /-- ZRL (R269): Zero local -/
  | zrl (k : Int)
  /-- (escape) (R103): the escape byte with its second byte still to be fetched. -/
  | escape
  /-- (illegal) (R399): an unassigned escaped opcode. -/
  | illegal (op : Byte)
  deriving DecidableEq, Repr

end Sys2Proof
end

