-- ==== Sys2Proof/WellFormed.lean ====
section
/-! DEFINITION. Which terms of Instr are instructions some encoding holds: the operand a 16-bit field can give after
the scaling of R106. The run-time argument checks of R16 and R118 are not made here: a rejected operand decodes. -/

namespace Sys2Proof

/-- Operands of an unscaled instruction: any signed 16-bit value (R104). -/
def okM (k : Int) : Bool := decide (-32768 ≤ k) && decide (k ≤ 32767)

/-- Operands of an instruction with flag `x`: twice a signed 16-bit value (R106). -/
def okX (k : Int) : Bool := decide (k % 2 = 0) && decide (-65536 ≤ k) && decide (k ≤ 65534)

/-- Operands of an instruction with flag `y`: 1, or twice a nonzero signed 16-bit value (R106). -/
def okY (k : Int) : Bool := decide (k = 1) || (okX k && decide (k ≠ 0))

/-- The unassigned second bytes after the escape (R115). -/
def unassigned (op : Byte) : Bool :=
  [85, 90, 110, 111, 112].contains op.toNat || decide (124 ≤ op.toNat)

/-- An instruction that some encoding holds (R101, R104, R106, R115). -/
def Instr.wf : Instr → Bool
  | .aar k => okX k
  | .aas => true
  | .add => true
  | .adi k => okM k
  | .and k => okX k
  | .ans => true
  | .beg k => okX k
  | .beq k => okM k
  | .bes => true
  | .bge k => okM k
  | .bgt k => okM k
  | .ble k => okM k
  | .blm k => okX k
  | .bls => true
  | .blt k => okM k
  | .bne k => okM k
  | .brb k => okM k
  | .brf k => okM k
  | .cal k => okM k
  | .cas => true
  | .cdi => true
  | .cdf => true
  | .cfd => true
  | .cfi => true
  | .cid => true
  | .cif => true
  | .cmd => true
  | .cmf => true
  | .cmi => true
  | .cmp => true
  | .cms => true
  | .cmu k => okX k
  | .com k => okX k
  | .cos => true
  | .csa => true
  | .csb => true
  | .dad => true
  | .ddv => true
  | .dec => true
  | .dee k => okX k
  | .del k => okX k
  | .div => true
  | .dmd => true
  | .dmu => true
  | .dsb => true
  | .dup k => okX k
  | .dus => true
  | .exg => true
  | .fad => true
  | .fdv => true
  | .fef => true
  | .fif => true
  | .fmu => true
  | .fsb => true
  | .hlt => true
  | .inc => true
  | .ine k => okX k
  | .inl k => okX k
  | .inn k => okX k
  | .ins => true
  | .ior k => okX k
  | .ios => true
  | .lae k => okX k
  | .lai k => okY k
  | .lal k => okX k
  | .lar k => okX k
  | .las => true
  | .lde k => okX k
  | .ldf k => okX k
  | .ldl k => okX k
  | .lex k => okM k
  | .lin k => okM k
  | .lnc k => okM k
  | .lni => true
  | .loc k => okM k
  | .loe k => okX k
  | .lof k => okX k
  | .loi k => okY k
  | .lol k => okX k
  | .lop k => okX k
  | .lor k => okM k
  | .los => true
  | .lsa k => okM k
  | .mod => true
  | .mon => true
  | .mrk k => okM k
  | .mrs => true
  | .mrx k => okM k
  | .mul => true
  | .mxs => true
  | .neg => true
  | .nop => true
  | .pad => true
  | .psb => true
  | .rck k => okX k
  | .rcs => true
  | .res => true
  | .ret k => okX k
  | .rol => true
  | .ror => true
  | .rtt => true
  | .sai k => okY k
  | .sar k => okX k
  | .sas => true
  | .sde k => okX k
  | .sdf k => okX k
  | .sdl k => okX k
  | .ses => true
  | .xset k => okX k
  | .shl => true
  | .shr => true
  | .sig => true
  | .ste k => okX k
  | .stf k => okX k
  | .sti k => okY k
  | .stl k => okX k
  | .stp k => okX k
  | .str k => okM k
  | .sts => true
  | .sub => true
  | .teq => true
  | .tge => true
  | .tgt => true
  | .tle => true
  | .tlt => true
  | .tne => true
  | .trp => true
  | .xor k => okX k
  | .xos => true
  | .zeq k => okM k
  | .zge k => okM k
  | .zgt k => okM k
  | .zle k => okM k
  | .zlt k => okM k
  | .zne k => okM k
  | .zre k => okX k
  | .zrl k => okX k
  | .escape => true
  | .illegal op => unassigned op

end Sys2Proof
end

