-- ==== Sys2Proof/Decode.lean ====
section
/-! DEFINITION. Decoding and encoding (30_encoding.md R100 to R121), both read from the instruction table of R112. -/

namespace Sys2Proof

/-! ## The instruction table of Appendix 2 (R112) -/

/-- The flag letters of R105. -/
inductive Flag where
  | a | b | c | e | m | x | y | z | s | l | o
  deriving DecidableEq, Repr

/-- What a row makes of its operand: an instruction without operand, or one with the scaled operand. -/
inductive RowForm where
  | z (i : Instr)
  | k (f : Int → Instr)

/-- One line of the table of R112. -/
structure Row where
  number : Nat
  flags : List Flag
  nminis : Nat
  mbase : Nat
  nshort : Nat
  sbase : Nat
  obase : Nat
  form : RowForm

/-- R112, piece 1. -/
def rows1 : List Row := [
  { number := 1, flags := [.x, .e], nminis := 0, mbase := 0, nshort := 2, sbase := 138, obase := 140, form := .k .aar },
  { number := 2, flags := [.z, .s], nminis := 0, mbase := 0, nshort := 0, sbase := 0, obase := 1, form := .z .aas },
  { number := 3, flags := [.z], nminis := 0, mbase := 0, nshort := 0, sbase := 0, obase := 129, form := .z .add },
  { number := 4, flags := [.l], nminis := 0, mbase := 0, nshort := 1, sbase := 156, obase := 2, form := .k .adi },
  { number := 5, flags := [.s, .l, .x, .o], nminis := 1, mbase := 229, nshort := 1, sbase := 4, obase := 5, form := .k .and },
  { number := 6, flags := [.z, .s], nminis := 0, mbase := 0, nshort := 0, sbase := 0, obase := 6, form := .z .ans },
  { number := 7, flags := [.l, .x, .o], nminis := 3, mbase := 252, nshort := 1, sbase := 255, obase := 7, form := .k .beg },
  { number := 8, flags := [.l, .b, .o], nminis := 0, mbase := 0, nshort := 1, sbase := 165, obase := 8, form := .k .beq },
  { number := 9, flags := [.z, .s], nminis := 0, mbase := 0, nshort := 0, sbase := 0, obase := 16, form := .z .bes },
  { number := 10, flags := [.l, .b, .o], nminis := 0, mbase := 0, nshort := 1, sbase := 166, obase := 9, form := .k .bge },
  { number := 11, flags := [.l, .b, .o], nminis := 0, mbase := 0, nshort := 1, sbase := 167, obase := 10, form := .k .bgt },
  { number := 12, flags := [.l, .b, .o], nminis := 0, mbase := 0, nshort := 1, sbase := 168, obase := 11, form := .k .ble },
  { number := 13, flags := [.l, .x], nminis := 0, mbase := 0, nshort := 1, sbase := 173, obase := 17, form := .k .blm },
  { number := 14, flags := [.z, .s], nminis := 0, mbase := 0, nshort := 0, sbase := 0, obase := 18, form := .z .bls },
  { number := 15, flags := [.l, .b, .o], nminis := 0, mbase := 0, nshort := 1, sbase := 169, obase := 12, form := .k .blt },
  { number := 16, flags := [.l, .b, .o], nminis := 0, mbase := 0, nshort := 1, sbase := 170, obase := 13, form := .k .bne },
  { number := 17, flags := [.l, .b, .o], nminis := 0, mbase := 0, nshort := 1, sbase := 171, obase := 15, form := .k .brb },
  { number := 18, flags := [.l, .b, .o], nminis := 0, mbase := 0, nshort := 1, sbase := 172, obase := 14, form := .k .brf },
  { number := 19, flags := [.l, .c], nminis := 122, mbase := 134, nshort := 1, sbase := 174, obase := 19, form := .k .cal },
  { number := 20, flags := [.z, .s, .c], nminis := 0, mbase := 0, nshort := 0, sbase := 0, obase := 20, form := .z .cas }]

/-- R112, piece 2. -/
def rows2 : List Row := [
  { number := 21, flags := [.z, .s], nminis := 0, mbase := 0, nshort := 0, sbase := 0, obase := 21, form := .z .cdi },
  { number := 22, flags := [.z, .s], nminis := 0, mbase := 0, nshort := 0, sbase := 0, obase := 100, form := .z .cdf },
  { number := 23, flags := [.z, .s], nminis := 0, mbase := 0, nshort := 0, sbase := 0, obase := 101, form := .z .cfd },
  { number := 24, flags := [.z], nminis := 0, mbase := 0, nshort := 0, sbase := 0, obase := 175, form := .z .cfi },
  { number := 25, flags := [.z, .s], nminis := 0, mbase := 0, nshort := 0, sbase := 0, obase := 22, form := .z .cid },
  { number := 26, flags := [.z], nminis := 0, mbase := 0, nshort := 0, sbase := 0, obase := 157, form := .z .cif },
  { number := 27, flags := [.z, .s], nminis := 0, mbase := 0, nshort := 0, sbase := 0, obase := 23, form := .z .cmd },
  { number := 28, flags := [.z], nminis := 0, mbase := 0, nshort := 0, sbase := 0, obase := 176, form := .z .cmf },
  { number := 29, flags := [.z], nminis := 0, mbase := 0, nshort := 0, sbase := 0, obase := 177, form := .z .cmi },
  { number := 30, flags := [.z, .s], nminis := 0, mbase := 0, nshort := 0, sbase := 0, obase := 84, form := .z .cmp },
  { number := 31, flags := [.z, .s], nminis := 0, mbase := 0, nshort := 0, sbase := 0, obase := 24, form := .z .cms },
  { number := 32, flags := [.s, .l, .x], nminis := 0, mbase := 0, nshort := 1, sbase := 25, obase := 26, form := .k .cmu },
  { number := 33, flags := [.s, .l, .x], nminis := 0, mbase := 0, nshort := 1, sbase := 27, obase := 28, form := .k .com },
  { number := 34, flags := [.z, .s], nminis := 0, mbase := 0, nshort := 0, sbase := 0, obase := 29, form := .z .cos },
  { number := 35, flags := [.z], nminis := 0, mbase := 0, nshort := 0, sbase := 0, obase := 178, form := .z .csa },
  { number := 36, flags := [.z], nminis := 0, mbase := 0, nshort := 0, sbase := 0, obase := 179, form := .z .csb },
  { number := 37, flags := [.z, .s], nminis := 0, mbase := 0, nshort := 0, sbase := 0, obase := 30, form := .z .dad },
  { number := 38, flags := [.z, .s], nminis := 0, mbase := 0, nshort := 0, sbase := 0, obase := 33, form := .z .ddv },
  { number := 39, flags := [.z], nminis := 0, mbase := 0, nshort := 0, sbase := 0, obase := 134, form := .z .dec },
  { number := 40, flags := [.s, .l, .x, .e], nminis := 0, mbase := 0, nshort := 1, sbase := 34, obase := 35, form := .k .dee }]

/-- R112, piece 3. -/
def rows3 : List Row := [
  { number := 41, flags := [.s, .l, .x], nminis := 0, mbase := 0, nshort := 1, sbase := 36, obase := 37, form := .k .del },
  { number := 42, flags := [.z], nminis := 0, mbase := 0, nshort := 0, sbase := 0, obase := 132, form := .z .div },
  { number := 43, flags := [.z, .s], nminis := 0, mbase := 0, nshort := 0, sbase := 0, obase := 102, form := .z .dmd },
  { number := 44, flags := [.z, .s], nminis := 0, mbase := 0, nshort := 0, sbase := 0, obase := 32, form := .z .dmu },
  { number := 45, flags := [.z, .s], nminis := 0, mbase := 0, nshort := 0, sbase := 0, obase := 31, form := .z .dsb },
  { number := 46, flags := [.s, .l, .x, .o], nminis := 1, mbase := 180, nshort := 1, sbase := 38, obase := 39, form := .k .dup },
  { number := 47, flags := [.z, .s], nminis := 0, mbase := 0, nshort := 0, sbase := 0, obase := 40, form := .z .dus },
  { number := 48, flags := [.z, .s], nminis := 0, mbase := 0, nshort := 0, sbase := 0, obase := 41, form := .z .exg },
  { number := 49, flags := [.z], nminis := 0, mbase := 0, nshort := 0, sbase := 0, obase := 181, form := .z .fad },
  { number := 50, flags := [.z], nminis := 0, mbase := 0, nshort := 0, sbase := 0, obase := 184, form := .z .fdv },
  { number := 51, flags := [.z, .s], nminis := 0, mbase := 0, nshort := 0, sbase := 0, obase := 113, form := .z .fef },
  { number := 52, flags := [.z, .s], nminis := 0, mbase := 0, nshort := 0, sbase := 0, obase := 114, form := .z .fif },
  { number := 53, flags := [.z], nminis := 0, mbase := 0, nshort := 0, sbase := 0, obase := 183, form := .z .fmu },
  { number := 54, flags := [.z], nminis := 0, mbase := 0, nshort := 0, sbase := 0, obase := 182, form := .z .fsb },
  { number := 55, flags := [.z, .s], nminis := 0, mbase := 0, nshort := 0, sbase := 0, obase := 0, form := .z .hlt },
  { number := 56, flags := [.z], nminis := 0, mbase := 0, nshort := 0, sbase := 0, obase := 133, form := .z .inc },
  { number := 57, flags := [.x, .e], nminis := 0, mbase := 0, nshort := 1, sbase := 186, obase := 187, form := .k .ine },
  { number := 58, flags := [.l, .x], nminis := 5, mbase := 188, nshort := 1, sbase := 193, obase := 42, form := .k .inl },
  { number := 59, flags := [.l, .x], nminis := 0, mbase := 0, nshort := 1, sbase := 194, obase := 43, form := .k .inn },
  { number := 60, flags := [.z, .s], nminis := 0, mbase := 0, nshort := 0, sbase := 0, obase := 44, form := .z .ins }]

/-- R112, piece 4. -/
def rows4 : List Row := [
  { number := 61, flags := [.s, .l, .x, .o], nminis := 4, mbase := 158, nshort := 1, sbase := 45, obase := 46, form := .k .ior },
  { number := 62, flags := [.z, .s], nminis := 0, mbase := 0, nshort := 0, sbase := 0, obase := 47, form := .z .ios },
  { number := 64, flags := [.x, .e], nminis := 13, mbase := 100, nshort := 9, sbase := 113, obase := 122, form := .k .lae },
  { number := 65, flags := [.s, .l, .y], nminis := 0, mbase := 0, nshort := 1, sbase := 115, obase := 116, form := .k .lai },
  { number := 66, flags := [.l, .x], nminis := 7, mbase := 92, nshort := 1, sbase := 99, obase := 48, form := .k .lal },
  { number := 67, flags := [.x, .e], nminis := 0, mbase := 0, nshort := 2, sbase := 135, obase := 137, form := .k .lar },
  { number := 68, flags := [.z, .s], nminis := 0, mbase := 0, nshort := 0, sbase := 0, obase := 49, form := .z .las },
  { number := 69, flags := [.x, .e], nminis := 0, mbase := 0, nshort := 2, sbase := 145, obase := 147, form := .k .lde },
  { number := 70, flags := [.s, .l, .x], nminis := 0, mbase := 0, nshort := 1, sbase := 50, obase := 51, form := .k .ldf },
  { number := 71, flags := [.l, .x], nminis := 7, mbase := 148, nshort := 1, sbase := 155, obase := 52, form := .k .ldl },
  { number := 72, flags := [.s, .l, .o], nminis := 2, mbase := 141, nshort := 1, sbase := 53, obase := 54, form := .k .lex },
  { number := 73, flags := [], nminis := 0, mbase := 0, nshort := 1, sbase := 195, obase := 196, form := .k .lin },
  { number := 74, flags := [.l, .o], nminis := 1, mbase := 37, nshort := 1, sbase := 38, obase := 108, form := .k .lnc },
  { number := 75, flags := [.z], nminis := 0, mbase := 0, nshort := 0, sbase := 0, obase := 185, form := .z .lni },
  { number := 76, flags := [], nminis := 33, mbase := 1, nshort := 2, sbase := 34, obase := 36, form := .k .loc },
  { number := 77, flags := [.x, .e], nminis := 20, mbase := 56, nshort := 4, sbase := 76, obase := 80, form := .k .loe },
  { number := 78, flags := [.x, .o], nminis := 9, mbase := 81, nshort := 1, sbase := 90, obase := 91, form := .k .lof },
  { number := 79, flags := [.l, .y], nminis := 5, mbase := 123, nshort := 1, sbase := 128, obase := 55, form := .k .loi },
  { number := 80, flags := [.l, .x], nminis := 16, mbase := 39, nshort := 1, sbase := 55, obase := 56, form := .k .lol },
  { number := 81, flags := [.l, .x], nminis := 2, mbase := 162, nshort := 1, sbase := 164, obase := 57, form := .k .lop }]

/-- R112, piece 5. -/
def rows5 : List Row := [
  { number := 82, flags := [.s, .l], nminis := 0, mbase := 0, nshort := 1, sbase := 58, obase := 106, form := .k .lor },
  { number := 83, flags := [.z, .s], nminis := 0, mbase := 0, nshort := 0, sbase := 0, obase := 59, form := .z .los },
  { number := 84, flags := [.s, .l], nminis := 0, mbase := 0, nshort := 1, sbase := 104, obase := 105, form := .k .lsa },
  { number := 85, flags := [.z], nminis := 0, mbase := 0, nshort := 0, sbase := 0, obase := 197, form := .z .mod },
  { number := 86, flags := [.z, .s], nminis := 0, mbase := 0, nshort := 0, sbase := 0, obase := 60, form := .z .mon },
  { number := 87, flags := [.s, .l, .m], nminis := 4, mbase := 244, nshort := 1, sbase := 61, obase := 62, form := .k .mrk },
  { number := 88, flags := [.z, .s, .m], nminis := 0, mbase := 0, nshort := 0, sbase := 0, obase := 65, form := .z .mrs },
  { number := 89, flags := [.s, .l, .a], nminis := 4, mbase := 248, nshort := 1, sbase := 63, obase := 64, form := .k .mrx },
  { number := 90, flags := [.z], nminis := 0, mbase := 0, nshort := 0, sbase := 0, obase := 131, form := .z .mul },
  { number := 91, flags := [.z, .s, .a], nminis := 0, mbase := 0, nshort := 0, sbase := 0, obase := 66, form := .z .mxs },
  { number := 92, flags := [.z], nminis := 0, mbase := 0, nshort := 0, sbase := 0, obase := 198, form := .z .neg },
  { number := 93, flags := [.z, .s], nminis := 0, mbase := 0, nshort := 0, sbase := 0, obase := 89, form := .z .nop },
  { number := 95, flags := [.z, .s], nminis := 0, mbase := 0, nshort := 0, sbase := 0, obase := 3, form := .z .pad },
  { number := 96, flags := [.z, .s], nminis := 0, mbase := 0, nshort := 0, sbase := 0, obase := 117, form := .z .psb },
  { number := 97, flags := [.x, .e], nminis := 0, mbase := 0, nshort := 1, sbase := 143, obase := 144, form := .k .rck },
  { number := 98, flags := [.z, .s], nminis := 0, mbase := 0, nshort := 0, sbase := 0, obase := 118, form := .z .rcs },
  { number := 99, flags := [.z, .s], nminis := 0, mbase := 0, nshort := 0, sbase := 0, obase := 103, form := .z .res },
  { number := 100, flags := [.s, .l, .x], nminis := 2, mbase := 199, nshort := 1, sbase := 67, obase := 68, form := .k .ret },
  { number := 101, flags := [.z, .s], nminis := 0, mbase := 0, nshort := 0, sbase := 0, obase := 69, form := .z .rol },
  { number := 102, flags := [.z, .s], nminis := 0, mbase := 0, nshort := 0, sbase := 0, obase := 70, form := .z .ror }]

/-- R112, piece 6. -/
def rows6 : List Row := [
  { number := 103, flags := [.z, .s], nminis := 0, mbase := 0, nshort := 0, sbase := 0, obase := 119, form := .z .rtt },
  { number := 104, flags := [.s, .l, .y], nminis := 0, mbase := 0, nshort := 1, sbase := 120, obase := 121, form := .k .sai },
  { number := 105, flags := [.x, .e], nminis := 0, mbase := 0, nshort := 2, sbase := 201, obase := 203, form := .k .sar },
  { number := 106, flags := [.z, .s], nminis := 0, mbase := 0, nshort := 0, sbase := 0, obase := 71, form := .z .sas },
  { number := 107, flags := [.l, .x, .e], nminis := 0, mbase := 0, nshort := 1, sbase := 204, obase := 72, form := .k .sde },
  { number := 108, flags := [.s, .l, .x], nminis := 0, mbase := 0, nshort := 1, sbase := 73, obase := 74, form := .k .sdf },
  { number := 109, flags := [.l, .x], nminis := 0, mbase := 0, nshort := 1, sbase := 205, obase := 75, form := .k .sdl },
  { number := 110, flags := [.z, .s], nminis := 0, mbase := 0, nshort := 0, sbase := 0, obase := 76, form := .z .ses },
  { number := 111, flags := [.s, .l, .x], nminis := 0, mbase := 0, nshort := 1, sbase := 77, obase := 78, form := .k .xset },
  { number := 112, flags := [.z], nminis := 0, mbase := 0, nshort := 0, sbase := 0, obase := 206, form := .z .shl },
  { number := 113, flags := [.z, .s], nminis := 0, mbase := 0, nshort := 0, sbase := 0, obase := 91, form := .z .shr },
  { number := 114, flags := [.z, .s], nminis := 0, mbase := 0, nshort := 0, sbase := 0, obase := 122, form := .z .sig },
  { number := 115, flags := [.x, .e], nminis := 0, mbase := 0, nshort := 2, sbase := 207, obase := 209, form := .k .ste },
  { number := 116, flags := [.l, .x, .o], nminis := 3, mbase := 210, nshort := 1, sbase := 213, obase := 79, form := .k .stf },
  { number := 117, flags := [.l, .y], nminis := 2, mbase := 214, nshort := 1, sbase := 216, obase := 80, form := .k .sti },
  { number := 118, flags := [.l, .x], nminis := 10, mbase := 217, nshort := 1, sbase := 227, obase := 81, form := .k .stl },
  { number := 119, flags := [.l, .x], nminis := 0, mbase := 0, nshort := 1, sbase := 228, obase := 109, form := .k .stp },
  { number := 120, flags := [.s, .l], nminis := 0, mbase := 0, nshort := 1, sbase := 82, obase := 107, form := .k .str },
  { number := 121, flags := [.z, .s], nminis := 0, mbase := 0, nshort := 0, sbase := 0, obase := 83, form := .z .sts },
  { number := 122, flags := [.z], nminis := 0, mbase := 0, nshort := 0, sbase := 0, obase := 130, form := .z .sub }]

/-- R112, piece 7. -/
def rows7 : List Row := [
  { number := 123, flags := [.z], nminis := 0, mbase := 0, nshort := 0, sbase := 0, obase := 230, form := .z .teq },
  { number := 124, flags := [.z], nminis := 0, mbase := 0, nshort := 0, sbase := 0, obase := 231, form := .z .tge },
  { number := 125, flags := [.z], nminis := 0, mbase := 0, nshort := 0, sbase := 0, obase := 232, form := .z .tgt },
  { number := 126, flags := [.z], nminis := 0, mbase := 0, nshort := 0, sbase := 0, obase := 233, form := .z .tle },
  { number := 127, flags := [.z], nminis := 0, mbase := 0, nshort := 0, sbase := 0, obase := 234, form := .z .tlt },
  { number := 128, flags := [.z], nminis := 0, mbase := 0, nshort := 0, sbase := 0, obase := 235, form := .z .tne },
  { number := 129, flags := [.z, .s], nminis := 0, mbase := 0, nshort := 0, sbase := 0, obase := 123, form := .z .trp },
  { number := 130, flags := [.s, .l, .x], nminis := 0, mbase := 0, nshort := 1, sbase := 86, obase := 87, form := .k .xor },
  { number := 131, flags := [.z, .s], nminis := 0, mbase := 0, nshort := 0, sbase := 0, obase := 88, form := .z .xos },
  { number := 132, flags := [.l, .b, .o], nminis := 0, mbase := 0, nshort := 1, sbase := 236, obase := 94, form := .k .zeq },
  { number := 133, flags := [.l, .b, .o], nminis := 0, mbase := 0, nshort := 1, sbase := 237, obase := 95, form := .k .zge },
  { number := 134, flags := [.l, .b, .o], nminis := 0, mbase := 0, nshort := 1, sbase := 238, obase := 96, form := .k .zgt },
  { number := 135, flags := [.l, .b, .o], nminis := 0, mbase := 0, nshort := 1, sbase := 239, obase := 97, form := .k .zle },
  { number := 136, flags := [.l, .b, .o], nminis := 0, mbase := 0, nshort := 1, sbase := 240, obase := 98, form := .k .zlt },
  { number := 137, flags := [.l, .b, .o], nminis := 0, mbase := 0, nshort := 1, sbase := 241, obase := 99, form := .k .zne },
  { number := 138, flags := [.l, .x, .e], nminis := 0, mbase := 0, nshort := 1, sbase := 242, obase := 92, form := .k .zre },
  { number := 139, flags := [.l, .x], nminis := 0, mbase := 0, nshort := 1, sbase := 243, obase := 93, form := .k .zrl }]

/-- The 137 lines of R112 that are machine instructions: all but the placeholders `lab` and `nul` (R113). -/
def table : List Row := rows1 ++ rows2 ++ rows3 ++ rows4 ++ rows5 ++ rows6 ++ rows7

/-- Whether a row has a flag. -/
def Row.has (r : Row) (f : Flag) : Bool := r.flags.contains f

/-- The implicit value of the first mini (R104: 1 with flag `o`, else 0). -/
def Row.firstMini (r : Row) : Nat := if r.has .o then 1 else 0

/-- Scaling of a raw operand (R106). -/
def Row.scale (r : Row) (raw : Int) : Int :=
  if r.has .x then 2 * raw
  else if r.has .y then (if raw = 0 then 1 else 2 * raw)
  else raw

/-- The raw operand of a scaled one (the inverse of R106). -/
def Row.unscale (r : Row) (k : Int) : Int :=
  if r.has .x then k / 2
  else if r.has .y then (if k = 1 then 0 else k / 2)
  else k

/-- The instruction of a row with a raw operand. -/
def Row.build (r : Row) (raw : Int) : Instr :=
  match r.form with
  | .z i => i
  | .k f => f (r.scale raw)

/-! ## The two opcode maps (R105, R110, R111) -/

/-- What an opcode of a map means: a form of a row (R101, R102). -/
inductive Entry where
  | z (r : Row)
  | mini (r : Row) (implicit : Nat)
  | short (r : Row) (high : Nat)
  | long (r : Row)

/-- The entry a row has in the primary map (R105). CAL's minis exist in the alternate context only (R107). -/
def Row.primary (r : Row) (op : Nat) : Option Entry :=
  if r.has .z then
    (if !r.has .s && op == r.obase then some (.z r) else none)
  else if !r.has .l && op == r.obase then some (.long r)
  else if !r.has .s && decide (r.sbase ≤ op) && decide (op < r.sbase + r.nshort) then
    some (.short r (op - r.sbase))
  else if !r.has .c && decide (r.mbase ≤ op) && decide (op < r.mbase + r.nminis) then
    some (.mini r (op - r.mbase + r.firstMini))
  else none

/-- The entry a row has in the secondary map (R105). -/
def Row.secondary (r : Row) (op : Nat) : Option Entry :=
  if r.has .z then
    (if r.has .s && op == r.obase then some (.z r) else none)
  else if r.has .l && op == r.obase then some (.long r)
  else if r.has .s && decide (r.sbase ≤ op) && decide (op < r.sbase + r.nshort) then
    some (.short r (op - r.sbase))
  else none

/-- The primary opcode map (R110). -/
def primaryEntry (op : Byte) : Option Entry := table.findSome? (fun r => r.primary op.toNat)

/-- The secondary opcode map (R111): none for an unassigned opcode (R115). -/
def secondaryEntry (op : Byte) : Option Entry := table.findSome? (fun r => r.secondary op.toNat)

/-! ## Decoding (R102) -/

/-- What decoding gives: an instruction and its length in bytes, or more bytes are needed than there are. Every byte
string that is long enough is an instruction: the unassigned opcodes are the instruction `illegal` (R115). -/
inductive Decoded where
  | instr (i : Instr) (length : Nat)
  | truncated
  deriving DecidableEq, Repr

/-- Sign extension of a 16-bit field, high byte first (R104). -/
def sext16 (hi lo : Byte) : Int :=
  256 * (if 128 ≤ hi.toNat then (hi.toNat : Int) - 256 else (hi.toNat : Int)) + (lo.toNat : Int)

/-- Operand assembly (R104, R106): the entry of the opcode, and the bytes after it; `n` bytes came before those. -/
def Entry.decode (e : Entry) (n : Nat) (bs : List Byte) : Decoded :=
  match e with
  | .z r => .instr (r.build 0) n
  | .mini r implicit => .instr (r.build implicit) n
  | .short r high =>
    match bs with
    | b :: _ => .instr (r.build (256 * (high : Int) + (b.toNat : Int))) (n + 1)
    | [] => .truncated
  | .long r =>
    match bs with
    | hi :: lo :: _ => .instr (r.build (sext16 hi lo)) (n + 2)
    | _ => .truncated

/-- The instruction after an escape byte (R103): `bs` starts at the second byte. -/
def decodeEscaped (bs : List Byte) : Decoded :=
  match bs with
  | [] => .instr .escape 1
  | op :: rest =>
    match secondaryEntry op with
    | some e => e.decode 2 rest
    | none => .instr (.illegal op) 2

/-- The instruction at the head of a byte string, in the context `normal` says (R102, R107). -/
def decode (normal : Bool) (bs : List Byte) : Decoded :=
  match bs with
  | [] => .truncated
  | op :: rest =>
    if normal || decide (op.toNat < Config.cutoff) then
      if op = 0 then decodeEscaped rest
      else
        match primaryEntry op with
        | some e => e.decode 1 rest
        | none => .truncated
    else .instr (.cal ((op.toNat : Int) - (Config.cutoff : Int))) 1

/-! ## Encoding (R101, R104, R117) -/

/-- The NUMBER of an instruction's line in the table of R112 (0 for the two forms that have no line). -/
def Instr.line : Instr → Nat
  | .aar _ => 1
  | .aas => 2
  | .add => 3
  | .adi _ => 4
  | .and _ => 5
  | .ans => 6
  | .beg _ => 7
  | .beq _ => 8
  | .bes => 9
  | .bge _ => 10
  | .bgt _ => 11
  | .ble _ => 12
  | .blm _ => 13
  | .bls => 14
  | .blt _ => 15
  | .bne _ => 16
  | .brb _ => 17
  | .brf _ => 18
  | .cal _ => 19
  | .cas => 20
  | .cdi => 21
  | .cdf => 22
  | .cfd => 23
  | .cfi => 24
  | .cid => 25
  | .cif => 26
  | .cmd => 27
  | .cmf => 28
  | .cmi => 29
  | .cmp => 30
  | .cms => 31
  | .cmu _ => 32
  | .com _ => 33
  | .cos => 34
  | .csa => 35
  | .csb => 36
  | .dad => 37
  | .ddv => 38
  | .dec => 39
  | .dee _ => 40
  | .del _ => 41
  | .div => 42
  | .dmd => 43
  | .dmu => 44
  | .dsb => 45
  | .dup _ => 46
  | .dus => 47
  | .exg => 48
  | .fad => 49
  | .fdv => 50
  | .fef => 51
  | .fif => 52
  | .fmu => 53
  | .fsb => 54
  | .hlt => 55
  | .inc => 56
  | .ine _ => 57
  | .inl _ => 58
  | .inn _ => 59
  | .ins => 60
  | .ior _ => 61
  | .ios => 62
  | .lae _ => 64
  | .lai _ => 65
  | .lal _ => 66
  | .lar _ => 67
  | .las => 68
  | .lde _ => 69
  | .ldf _ => 70
  | .ldl _ => 71
  | .lex _ => 72
  | .lin _ => 73
  | .lnc _ => 74
  | .lni => 75
  | .loc _ => 76
  | .loe _ => 77
  | .lof _ => 78
  | .loi _ => 79
  | .lol _ => 80
  | .lop _ => 81
  | .lor _ => 82
  | .los => 83
  | .lsa _ => 84
  | .mod => 85
  | .mon => 86
  | .mrk _ => 87
  | .mrs => 88
  | .mrx _ => 89
  | .mul => 90
  | .mxs => 91
  | .neg => 92
  | .nop => 93
  | .pad => 95
  | .psb => 96
  | .rck _ => 97
  | .rcs => 98
  | .res => 99
  | .ret _ => 100
  | .rol => 101
  | .ror => 102
  | .rtt => 103
  | .sai _ => 104
  | .sar _ => 105
  | .sas => 106
  | .sde _ => 107
  | .sdf _ => 108
  | .sdl _ => 109
  | .ses => 110
  | .xset _ => 111
  | .shl => 112
  | .shr => 113
  | .sig => 114
  | .ste _ => 115
  | .stf _ => 116
  | .sti _ => 117
  | .stl _ => 118
  | .stp _ => 119
  | .str _ => 120
  | .sts => 121
  | .sub => 122
  | .teq => 123
  | .tge => 124
  | .tgt => 125
  | .tle => 126
  | .tlt => 127
  | .tne => 128
  | .trp => 129
  | .xor _ => 130
  | .xos => 131
  | .zeq _ => 132
  | .zge _ => 133
  | .zgt _ => 134
  | .zle _ => 135
  | .zlt _ => 136
  | .zne _ => 137
  | .zre _ => 138
  | .zrl _ => 139
  | .escape => 0
  | .illegal _ => 0

/-- The operand an instruction holds (0 where it has none). -/
def Instr.operand : Instr → Int
  | .aar k => k
  | .aas => 0
  | .add => 0
  | .adi k => k
  | .and k => k
  | .ans => 0
  | .beg k => k
  | .beq k => k
  | .bes => 0
  | .bge k => k
  | .bgt k => k
  | .ble k => k
  | .blm k => k
  | .bls => 0
  | .blt k => k
  | .bne k => k
  | .brb k => k
  | .brf k => k
  | .cal k => k
  | .cas => 0
  | .cdi => 0
  | .cdf => 0
  | .cfd => 0
  | .cfi => 0
  | .cid => 0
  | .cif => 0
  | .cmd => 0
  | .cmf => 0
  | .cmi => 0
  | .cmp => 0
  | .cms => 0
  | .cmu k => k
  | .com k => k
  | .cos => 0
  | .csa => 0
  | .csb => 0
  | .dad => 0
  | .ddv => 0
  | .dec => 0
  | .dee k => k
  | .del k => k
  | .div => 0
  | .dmd => 0
  | .dmu => 0
  | .dsb => 0
  | .dup k => k
  | .dus => 0
  | .exg => 0
  | .fad => 0
  | .fdv => 0
  | .fef => 0
  | .fif => 0
  | .fmu => 0
  | .fsb => 0
  | .hlt => 0
  | .inc => 0
  | .ine k => k
  | .inl k => k
  | .inn k => k
  | .ins => 0
  | .ior k => k
  | .ios => 0
  | .lae k => k
  | .lai k => k
  | .lal k => k
  | .lar k => k
  | .las => 0
  | .lde k => k
  | .ldf k => k
  | .ldl k => k
  | .lex k => k
  | .lin k => k
  | .lnc k => k
  | .lni => 0
  | .loc k => k
  | .loe k => k
  | .lof k => k
  | .loi k => k
  | .lol k => k
  | .lop k => k
  | .lor k => k
  | .los => 0
  | .lsa k => k
  | .mod => 0
  | .mon => 0
  | .mrk k => k
  | .mrs => 0
  | .mrx k => k
  | .mul => 0
  | .mxs => 0
  | .neg => 0
  | .nop => 0
  | .pad => 0
  | .psb => 0
  | .rck k => k
  | .rcs => 0
  | .res => 0
  | .ret k => k
  | .rol => 0
  | .ror => 0
  | .rtt => 0
  | .sai k => k
  | .sar k => k
  | .sas => 0
  | .sde k => k
  | .sdf k => k
  | .sdl k => k
  | .ses => 0
  | .xset k => k
  | .shl => 0
  | .shr => 0
  | .sig => 0
  | .ste k => k
  | .stf k => k
  | .sti k => k
  | .stl k => k
  | .stp k => k
  | .str k => k
  | .sts => 0
  | .sub => 0
  | .teq => 0
  | .tge => 0
  | .tgt => 0
  | .tle => 0
  | .tlt => 0
  | .tne => 0
  | .trp => 0
  | .xor k => k
  | .xos => 0
  | .zeq k => k
  | .zge k => k
  | .zgt k => k
  | .zle k => k
  | .zlt k => k
  | .zne k => k
  | .zre k => k
  | .zrl k => k
  | .escape => 0
  | .illegal _ => 0

/-- The row of an instruction. -/
def Instr.row (i : Instr) : Option Row := table.find? (fun r => r.number == i.line)

/-- A byte of a number. -/
def byteOf (n : Int) : Byte := BitVec.ofInt 8 n

/-- The escape byte in front of a secondary opcode. -/
def escaped (secondary : Bool) (bs : List Byte) : List Byte := if secondary then 0#8 :: bs else bs

/-- The mini encodings of a row for a raw operand (R104); always primary (R105). -/
def Row.minis (r : Row) (raw : Int) : List (List Byte) :=
  if decide ((r.firstMini : Int) ≤ raw) && decide (raw < (r.firstMini : Int) + r.nminis) then
    [[byteOf ((r.mbase : Int) + raw - r.firstMini)]]
  else []

/-- The shortie encodings of a row for a raw operand (R104). -/
def Row.shorties (r : Row) (raw : Int) : List (List Byte) :=
  if decide (0 ≤ raw) && decide (raw < 256 * (r.nshort : Int)) then
    [escaped (r.has .s) [byteOf ((r.sbase : Int) + raw / 256), byteOf raw]]
  else []

/-- The long encoding of a row for a raw operand (R104): high byte first. -/
def Row.longs (r : Row) (raw : Int) : List (List Byte) :=
  [escaped (r.has .l) [byteOf r.obase, byteOf (raw / 256), byteOf raw]]

/-- The encodings of a row in a context (R105, R107): in the alternate context a primary opcode of `cutoff` or more
is CAL's mini and nothing else; in the normal context CAL has no minis. -/
def Row.encodings (normal : Bool) (r : Row) (k : Int) : List (List Byte) :=
  if r.has .z then [escaped (r.has .s) [byteOf r.obase]].filter (fun bs => normal || decide ((bs.headD 0).toNat < Config.cutoff))
  else
    (if r.has .c then (if normal then [] else r.minis (r.unscale k))
     else (r.minis (r.unscale k)).filter (fun bs => normal || decide ((bs.headD 0).toNat < Config.cutoff)))
    ++ (r.shorties (r.unscale k) ++ r.longs (r.unscale k)).filter
        (fun bs => normal || decide ((bs.headD 0).toNat < Config.cutoff))

/-- Every encoding of an instruction in a context, shortest first (R117). -/
def encodings (normal : Bool) (i : Instr) : List (List Byte) :=
  match i with
  | .escape => [[0#8]]
  | .illegal op => [[0#8, op]]
  | i =>
    match i.row with
    | some r => r.encodings normal i.operand
    | none => []

/-- The encoding the assembler selects in the normal context, the shortest (R117). -/
def encode (i : Instr) : List Byte := (encodings true i).headD []

/-! ## The words of spec/opcode_table.json (R121) -/

/-- The bytes of a table word of `n` bytes: the first byte of the instruction is the most significant (R121). -/
def tableBytes : Nat → Nat → List Byte
  | 0, _ => []
  | n + 1, w => BitVec.ofNat 8 (w / 256 ^ n) :: tableBytes n w

/-- Whether a table word is read in the normal context: yes, unless it is too short for an instruction of the normal
context and its first byte is a one-byte CAL of the alternate context (R107, R121 `alternate-mini`). -/
def tableContext (nbits w : Nat) : Bool :=
  match decode true (tableBytes (nbits / 8) w) with
  | .instr _ _ => true
  | .truncated => decide (w < Config.cutoff) || nbits != 8

/-- The instruction the decoder reads from a word of spec/opcode_table.json, numbered as the table numbers it:
the first byte is the leftmost of `nbits / 8` bytes (R121). -/
def decodeTableWord (nbits w : Nat) : Option Instr :=
  match decode (tableContext nbits w) (tableBytes (nbits / 8) w) with
  | .instr i _ => some i
  | .truncated => none

end Sys2Proof
end

