-- ==== Sys2Proof/Machine/Memory.lean ====
section
/-! DEFINITION. A byte-addressed memory as plain data: the cells that differ from what an unlisted address reads as,
addresses strictly rising. Both address spaces (R60) are such memories. -/

namespace Sys2Proof.Machine

/-- A memory: (address, byte) pairs in canonical form. -/
abbrev Memory := List Host.Cell

/-- What an address that is not listed reads as: the zero fill of the start-up sequence (R451 step 2). -/
def Memory.unlisted : Byte := 0#8

/-- The byte at an address. -/
def Memory.read : Memory → Nat → Byte
  | [], _ => Memory.unlisted
  | (a, b) :: m, x => if x = a then b else Memory.read m x

/-- A cell in front of a memory, or nothing where the byte is what an unlisted address reads as. -/
def Memory.consCell (x : Nat) (v : Byte) (m : Memory) : Memory :=
  if v = Memory.unlisted then m else (x, v) :: m

/-- The memory with one byte written. -/
def Memory.write : Memory → Nat → Byte → Memory
  | [], x, v => Memory.consCell x v []
  | (a, b) :: m, x, v =>
    if x < a then Memory.consCell x v ((a, b) :: m)
    else if x = a then Memory.consCell x v m
    else (a, b) :: Memory.write m x v

/-- Every listed address is above `lo`, addresses rise strictly, and no listed byte is the unlisted one. -/
def Memory.wfAbove : Option Nat → Memory → Bool
  | _, [] => true
  | lo, (a, b) :: m =>
    (match lo with
      | none => true
      | some l => decide (l < a))
    && decide (b ≠ Memory.unlisted) && Memory.wfAbove (some a) m

/-- The canonical form. -/
def Memory.wf (m : Memory) : Bool := Memory.wfAbove none m

/-- The low-order byte of a word (R61). -/
def lowByte (w : Word) : Byte := BitVec.ofNat 8 w.toNat

/-- The high-order byte of a word (R61). -/
def highByte (w : Word) : Byte := BitVec.ofNat 8 (w.toNat / 256)

/-- A word of its two bytes. -/
def wordOf (lo hi : Byte) : Word := BitVec.ofNat 16 (lo.toNat + 256 * hi.toNat)

/-- The word at an address, low byte first (R61, R62 b). -/
def Memory.readWord (m : Memory) (a : Nat) : Word := wordOf (m.read a) (m.read (a + 1))

/-- The memory with a word written, low byte first (R61, R12). -/
def Memory.writeWord (m : Memory) (a : Nat) (w : Word) : Memory :=
  (m.write a (lowByte w)).write (a + 1) (highByte w)

/-- The memory with bytes written at ascending addresses. -/
def Memory.writeBytes : Memory → Nat → List Byte → Memory
  | m, _, [] => m
  | m, a, b :: bs => Memory.writeBytes (m.write a b) (a + 1) bs

/-- `n` bytes at ascending addresses. -/
def Memory.readBytes (m : Memory) (a : Nat) : Nat → List Byte
  | 0 => []
  | n + 1 => m.read a :: Memory.readBytes m (a + 1) n

end Sys2Proof.Machine
end

