-- ==== Sys2Proof/Machine/State.lean ====
section
/-! DEFINITION. The state of the machine (10_state.md R20), its reset value, and the reasons a step can stop. -/

namespace Sys2Proof.Machine

/-- Whether the machine runs (R32). The last three are terminal. -/
inductive Status where
  | running
  /-- HLT was executed with this exit status (R375). -/
  | halted (w : Word)
  /-- This error was fatal or not caught (R413). -/
  | aborted (n : Byte)
  /-- A situation the source calls undefined (R32): TRP with a number outside 0..255 (decision D16). -/
  | undefined
  deriving DecidableEq, Repr

/-- The five words of the second half of the load file header (R33, R173). -/
structure Header where
  ntext : Word
  ndata : Word
  nproc : Word
  entry : Word
  nline : Word
  deriving DecidableEq, Repr

/-- What Sigtrp was last given for a signal (R35): a trap number or "ignore"; a signal with no entry has the default
handling. -/
inductive SigAction where
  | ignore
  | trap (n : Byte)
  deriving DecidableEq, Repr

/-- One EM-1 machine (R20), with the two sizes the architecture leaves open (R7) and three fields of the model. -/
structure State where
  /-- Program counter (R22). -/
  pc : Word
  /-- Local base (R23). -/
  lb : Word
  /-- Stack pointer (R24); the pattern 0xFFFE holds the value -2 (log entry 3). -/
  sp : Word
  /-- Heap pointer (R25). -/
  hp : Word
  /-- Base of the procedure descriptor table (R27). -/
  pd : Word
  /-- Static link of the error procedure (R29). -/
  uerrorlb : Word
  /-- Number of the error procedure (R29). -/
  uerrorproc : Word
  /-- Instruction address space (R30). -/
  code : Memory
  /-- Data address space (R31). -/
  data : Memory
  /-- True except in the alternate context (R28). -/
  normalmap : Bool
  /-- R32. -/
  status : Status
  /-- R33. -/
  header : Header
  /-- Error numbers raised and not yet delivered (R34). -/
  pending : List Byte
  /-- One list for each trap handler entered and not left (R34, R416). -/
  saved : List (List Byte)
  /-- Signal actions other than the default, signal numbers strictly rising (R35). -/
  sigmap : List (Word × SigAction)
  /-- R7, decision D2. -/
  params : Params
  /-- The model's own: how many free values have been used (log entry 4). -/
  freeCount : Nat
  /-- The model's own: the number of the state the host is in (R400 `hoststate`; log entry 11). -/
  host : Nat
  /-- The model's own: what the host presents at the coming instruction boundaries, one entry for each: nothing or a
  signal; no entries left means no more signals (log entry 15). -/
  signals : List (Option Word)
  deriving DecidableEq, Repr

/-- Why a step of the model stops without a next state. -/
inductive Fault where
  /-- Raised by `step` on a machine that is not Running: "no rule of this spec applies after them" (R32). Safe: the
  model goes no further than the spec. -/
  | notRunning (s : Status)
  deriving DecidableEq, Repr

/-- Why the model gives an instruction no meaning. -/
inductive Refusal where
  /-- Raised by an arm of `exec` whose instruction has no meaning in the model. Safe: nothing follows from it. -/
  | notModelled (mnemonic : String)
  deriving DecidableEq, Repr

/-- The machine with no program loaded: R36 and R451 with no text, no procedures and a global data area of just the
line number word (log entry 2), so G = 2. -/
def State.reset : State where
  pc := 0#16
  lb := 8#16
  sp := 6#16
  hp := 8192#16
  pd := 0#16
  uerrorlb := 0#16
  uerrorproc := 0#16
  code := []
  data := [(2, 255#8), (3, 31#8), (4, 255#8), (5, 31#8), (6, 255#8), (7, 31#8)]
  normalmap := true
  status := .running
  header := { ntext := 0#16, ndata := 0#16, nproc := 0#16, entry := 0#16, nline := 0#16 }
  pending := []
  saved := []
  sigmap := []
  params := Params.appendix1
  freeCount := 0
  host := 0
  signals := []

end Sys2Proof.Machine
end

