-- ==== Sys2Proof/Machine/Flags.lean ====
section
/-! DEFINITION. EM-1 has no flags (R26): "Overflow, division by zero and the other arithmetic conditions are reported
by traps, not by status bits". This file holds the error numbers (R18), the fatal ones among them (R411) and the
conditions themselves. -/

namespace Sys2Proof.Machine

/-! ## Error numbers (R18, R411) -/

def ESTACK : Byte := 0#8
def EHEAP : Byte := 1#8
def EILLINS : Byte := 2#8
def EODDZ : Byte := 3#8
def ECASE : Byte := 4#8
def ESET : Byte := 5#8
def EARRAY : Byte := 6#8
def ERANGE : Byte := 7#8
def EIOVFL : Byte := 8#8
def EDOVFL : Byte := 9#8
def EFOVFL : Byte := 10#8
def EFUNFL : Byte := 11#8
def EIDIVZ : Byte := 12#8
def EFDIVZ : Byte := 13#8
def EIUND : Byte := 14#8
def EDUND : Byte := 15#8
def EFUND : Byte := 16#8
def ECFI : Byte := 17#8
def ECFD : Byte := 18#8
def ECDI : Byte := 19#8
def EFPP : Byte := 20#8
def ELIN : Byte := 21#8
def EMON : Byte := 22#8
/-- Raised by no rule but TRP (decision D27), as ELAE and EMEMFLT. -/
def ECAL : Byte := 23#8
def ELAE : Byte := 24#8
def EMEMFLT : Byte := 25#8
def EPTR : Byte := 26#8
def EPROC : Byte := 27#8
def EPC : Byte := 28#8

/-- The fatal errors (R411). -/
def isFatal (n : Byte) : Bool := [0, 1, 2, 3, 4, 23, 25, 26, 27, 28].contains n.toNat

/-- Default error handling is in effect (R29, R412, decision D8). -/
def State.defaultHandling (s : State) : Bool :=
  s.uerrorlb == 0#16 || s.uerrorproc == Config.defaultProc

/-! ## Conditions (R16, R17) -/

/-- The word is the undefined integer (R10). -/
def isUndef (w : Int) : Bool := decide (w = Config.undef)

/-- The result is no integer of R10. -/
def overflows (z : Int) : Bool := decide (32768 ≤ z.natAbs)

/-- A double precision result is outside the range of R9. -/
def overflowsDouble (d : Int) : Bool := decide (2147483647 < d.natAbs)

/-- `sleft` refuses to double the word (R17). -/
def overflowsLeft (w : Int) : Bool := decide (16384 ≤ w.natAbs)

/-- The result of a compare (R312, decision D23). -/
def compareInt (a b : Int) : Int := if a < b then -1 else if a = b then 0 else 1

/-- The result of a compare of reals (R315). -/
def compareRat (a b : Rat) : Int := if a < b then -1 else if a = b then 0 else 1

/-- The result of a test instruction (R312). -/
def ofBool (b : Bool) : Int := if b then 1 else 0

end Sys2Proof.Machine
end

