-- ==== Sys2Proof/Machine/Ops.lean ====
section
/-! DEFINITION. The primitives of every rule (00_scope.md R11 to R15), taking a trap and returning from one
(60_exceptions.md R412 to R418). -/

namespace Sys2Proof.Machine

/-! ## Updates of the state -/

/-- `PC <- a`, narrowed. -/
def State.setPc (s : State) (a : Int) : State := { s with pc := u16 a }
/-- `SP <- a`, narrowed. -/
def State.setSp (s : State) (a : Int) : State := { s with sp := u16 a }
/-- `LB <- a`, narrowed. -/
def State.setLb (s : State) (a : Int) : State := { s with lb := u16 a }
/-- `HP <- a`, narrowed. -/
def State.setHp (s : State) (a : Int) : State := { s with hp := u16 a }
/-- `normalmap <- b`. -/
def State.setNormal (s : State) (b : Bool) : State := { s with normalmap := b }
/-- The data word at `a` becomes `v`, narrowed (R12). -/
def State.putWord (s : State) (a v : Int) : State := { s with data := s.data.writeWord a.toNat (u16 v) }
/-- The data byte at `a` becomes `b`. -/
def State.putByte (s : State) (a : Int) (b : Byte) : State := { s with data := s.data.write a.toNat b }
/-- `pending <- pending ++ [n]` (R412). -/
def State.raise (s : State) (n : Byte) : State := { s with pending := s.pending ++ [n] }
/-- A terminal status; `pending` is discarded (R413). -/
def State.stopped (s : State) (st : Status) : State := { s with status := st, pending := [] }

/-! ## Statements -/

/-- A sequence of statements of a rule: it goes on, or stops with the state it has reached, whose status is then
terminal (R413). -/
abbrev Op (α : Type) := EStateM Unit State α

/-- The outcome of an instruction or of a step. -/
abbrev Result := Host.Outcome State Fault Refusal

/-- An instruction always gives a next state; one that stopped gives the stopped machine. -/
def runOp (m : Op Unit) (s : State) : Result :=
  match m.run s with
  | .ok _ s' => .next s'
  | .error _ s' => .next s'

/-- `status <- st`, and nothing further is executed (R413: `pending` is discarded). -/
def stop {α : Type} (st : Status) : Op α := fun s => .error () (s.stopped st)

/-- `trap(n)` (R11, R412): stop on a fatal or uncaught error, else queue the number and go on. -/
def trap (n : Byte) : Op Unit := fun s =>
  if isFatal n || s.defaultHandling then stop (.aborted n) s
  else .ok () (s.raise n)

/-- `if not ok then trap(n)`. -/
def require (ok : Bool) (n : Byte) : Op Unit := fun s => if ok then .ok () s else trap n s

/-! ## Registers as numbers -/

/-- PC as an address (R22). -/
def State.pcI (s : State) : Int := adr s.pc
/-- LB as an address (R23). -/
def State.lbI (s : State) : Int := adr s.lb
/-- SP as an exact number, -2 or more (R24; log entry 3). -/
def State.spI (s : State) : Int := adr (s.sp + 2#16) - 2
/-- HP as an address (R25). -/
def State.hpI (s : State) : Int := adr s.hp
/-- Base of the descriptor table (R27). -/
def State.pdI (s : State) : Int := adr s.pd
/-- NPROC (R33). -/
def State.nproc (s : State) : Int := adr s.header.nproc
/-- NLINE, read as a signed word (R451 "NLINE < 0"; log entry 19). -/
def State.nline (s : State) : Int := s16 s.header.nline
/-- The highest data address (R7). -/
def State.maxdata (s : State) : Int := (s.params.maxdata : Int)
/-- The highest code address (R7). -/
def State.maxcode (s : State) : Int := (s.params.maxcode : Int)

/-! ## Register updates (R14) -/

/-- `newpc` admits the target (R14, R22). -/
def State.okpc (s : State) (a : Int) : Bool := decide (0 ≤ a) && decide (a ≤ s.pdI)
/-- `newsp` admits the value (R14, R24). -/
def State.oksp (s : State) (a : Int) : Bool :=
  decide (s.lbI - 2 ≤ a) && decide (a < s.hpI) && decide (a % 2 = 0)
/-- `newlb` admits the value (R14, R23). -/
def State.oklb (s : State) (a : Int) : Bool := decide (a ≤ s.spI + 2) && decide (a % 2 = 0)
/-- `newhp` admits the value (R14, R25). -/
def State.okhp (s : State) (a : Int) : Bool :=
  decide (s.spI < a) && decide (a ≤ s.maxdata + 1) && decide (a % 2 = 0)

/-- `newpc(a)` (R14). -/
def newpc (a : Int) : Op Unit := fun s =>
  if s.okpc a then .ok () (s.setPc a) else trap EPC s
/-- `newsp(a)` (R14). -/
def newsp (a : Int) : Op Unit := fun s =>
  if s.oksp a then .ok () (s.setSp a) else trap ESTACK s
/-- `newlb(a)` (R14). -/
def newlb (a : Int) : Op Unit := fun s =>
  if s.oklb a then .ok () (s.setLb a) else trap ESTACK s
/-- `newhp(a)` (R14). -/
def newhp (a : Int) : Op Unit := fun s =>
  if s.okhp a then .ok () (s.setHp a) else trap EHEAP s
/-- `normalmap <- b` (R28). -/
def setNormalmap (b : Bool) : Op Unit := fun s => .ok () (s.setNormal b)

/-! ## Data memory (R12, R63, R64) -/

/-- The admission test for data addresses (R64), with the SP and HP of the moment. -/
def State.okadr (s : State) (a : Int) : Bool :=
  decide (0 ≤ a) && decide (a ≤ s.maxdata) && !(decide (s.spI < a) && decide (a < s.hpI))

/-- A word access is admitted: even address (R63), then R64. -/
def State.okword (s : State) (a : Int) : Bool := decide (a % 2 = 0) && s.okadr a

/-- The data word at an address. -/
def State.word (s : State) (a : Int) : Word := s.data.readWord a.toNat

/-- The data byte at an address. -/
def State.byte (s : State) (a : Int) : Byte := s.data.read a.toNat

/-- `MemRead(a, 1)`. -/
def memb (a : Int) : Op Int := fun s =>
  if s.okadr a then .ok (s.byte a).toNat s else stop (.aborted EPTR) s

/-- `MemRead(a, 2)`, unsigned. -/
def mema (a : Int) : Op Int := fun s =>
  if s.okword a then .ok (adr (s.word a)) s else stop (.aborted EPTR) s

/-- `memw(a)`: the word read as a signed integer. -/
def memw (a : Int) : Op Int := fun s =>
  if s.okword a then .ok (s16 (s.word a)) s else stop (.aborted EPTR) s

/-- `MemWrite(a, 1, b)`. -/
def storeb (a : Int) (b : Byte) : Op Unit := fun s =>
  if s.okadr a then .ok () (s.putByte a b) else trap EPTR s

/-- `MemWrite(a, 2, v)`: the value is narrowed by `u16` (R12, decision D5). -/
def store (a : Int) (v : Int) : Op Unit := fun s =>
  if s.okword a then .ok () (s.putWord a v) else trap EPTR s

/-! ## Instruction memory (R13, R65) -/

/-- A descriptor read is admitted (R65). -/
def State.okcode (s : State) (a : Int) : Bool := decide (a % 2 = 0) && decide (0 ≤ a) && decide (a ≤ s.maxcode)

/-- The word at a code address, low byte first (R62 b). -/
def State.codeWord (s : State) (a : Int) : Word := s.code.readWord a.toNat

/-- `CodeRead(a, 2)`. -/
def memi (a : Int) : Op Int := fun s =>
  if s.okcode a then .ok (adr (s.codeWord a)) s else stop (.aborted EPTR) s

/-! ## The stack (R15) -/

/-- `push(v)`. -/
def push (v : Int) : Op Unit := do
  let s ← get
  newsp (s.spI + 2)
  store (s.spI + 2) v

/-- `popw()`: signed. -/
def popw : Op Int := do
  let s ← get
  let r ← memw s.spI
  newsp (s.spI - 2)
  pure r

/-- `popa()`: unsigned. -/
def popa : Op Int := do
  let s ← get
  let r ← mema s.spI
  newsp (s.spI - 2)
  pure r

/-- `for i = 1 to n do push(memw(a - 2 + 2*i))`. -/
def pushWords : Nat → Int → Op Unit
  | 0, _ => pure ()
  | n + 1, a => do
    let w ← memw a
    push w
    pushWords n (a + 2)

/-- `for i = 1 to n do MemWrite(a + 2*n - 2*i, 2, popw())`. -/
def popWords : Nat → Int → Op Unit
  | 0, _ => pure ()
  | n + 1, a => do
    let w ← popw
    store (a + 2 * (n : Int)) w
    popWords n a

/-- `pushx(size, a)`: push the object of `size` bytes at address `a`. -/
def pushx (size a : Int) : Op Unit :=
  if size = 1 then do
    let b ← memb a
    push b
  else do
    require (decide (size % 2 = 0) && decide (0 < size)) EODDZ
    pushWords (size / 2).toNat a

/-- `popx(size, a)`: pop an object of `size` bytes to address `a`; one byte is the byte at address SP (R15, R83). -/
def popx (size a : Int) : Op Unit :=
  if size = 1 then do
    let s ← get
    let b ← memb s.spI
    storeb a (BitVec.ofInt 8 b)
    newsp (s.spI - 2)
  else do
    require (decide (size % 2 = 0) && decide (0 < size)) EODDZ
    popWords (size / 2).toNat a

/-- Push the same value `n` times. -/
def pushTimes (v : Int) : Nat → Op Unit
  | 0 => pure ()
  | n + 1 => do
    push v
    pushTimes v n

/-! ## Taking a trap and returning from it (R414 to R418) -/

/-- The base address of a procedure's text: its descriptor's second word (R73). -/
def procBase (n : Int) : Op Int := do
  let s ← get
  memi (s.pdI + (Config.pdsiz : Int) * n + (Config.pdbase : Int))

/-- The state changes a trap entry makes before its pushes (R415): the error registers are reset (R417) and the
undelivered numbers saved (R416). -/
def State.beginTrap (s : State) (rest : List Byte) : State :=
  { s with uerrorlb := 0#16, uerrorproc := 0#16, saved := rest :: s.saved, pending := [] }

/-- `enter(n, rest)`: trap entry (R415). -/
def enter (n : Byte) (rest : List Byte) : Op Unit := do
  let s ← get
  set (s.beginTrap rest)
  push (ofBool s.normalmap)
  push (adr s.uerrorlb)
  push s.lbI
  push s.pcI
  push n.toNat
  newlb (s.spI + 10)
  require (decide (adr s.uerrorproc < s.nproc)) EPROC
  let base ← procBase (adr s.uerrorproc)
  newpc base
  setNormalmap true

/-- `deliver()`: the last action of every step (R414). -/
def deliver : Op Unit := fun s =>
  if s.status = .running then
    match s.pending with
    | [] => .ok () s
    | n :: rest => if s.defaultHandling then stop (.aborted n) s else enter n rest s
  else .ok () s

/-- The list saved at the matching trap entry becomes pending (R416, R418); nothing changes when none is saved
(decision D26). -/
def restorePending : Op Unit := fun s =>
  match s.saved with
  | [] => .ok () s
  | l :: rest => .ok () { s with pending := l, saved := rest }

/-- Return from a trap (R383, R418). -/
def returnFromTrap : Op Unit := do
  let s ← get
  let ret ← mema (s.lbI - Config.reta)
  newpc ret
  let link ← mema (s.lbI - Config.dynd)
  newlb link
  newsp (s.lbI - 8)
  let w ← popw
  setNormalmap (decide (w = 1))
  restorePending

end Sys2Proof.Machine
end

