-- ==== Sys2Proof/Machine/Operands.lean ====
section
/-! DEFINITION. The argument checks of R16 (the operand classes of R118), popped operands, and the loops over words
that several instructions share. -/

namespace Sys2Proof.Machine

/-! ## Argument checks (R16). Each returns its argument. -/

/-- `argi`: an operand of integer arithmetic must be defined; EIUND is not fatal. -/
def argi (w : Int) : Op Int := do
  require (!isUndef w) EIUND
  pure w

/-- Class n holds the value (R118). -/
def isN (w : Int) : Bool := decide (0 ≤ w)
/-- Class x holds the value (R118). -/
def isX (w : Int) : Bool := decide (0 ≤ w) && decide (w < 32768) && decide (w % 2 = 0)
/-- Class p holds the value (R118). -/
def isP (w : Int) : Bool := decide (w % 2 = 0) && decide (0 < w) && decide (w < 32768)
/-- Class y holds the value (R118). -/
def isY (w : Int) : Bool := decide (w = 1) || isP w
/-- Class z holds the value (R118). -/
def isZ (w : Int) : Bool := decide (w % 2 = 0) && decide (-32768 ≤ w) && decide (w < 32768)

/-- `argn`: class n. -/
def argn (w : Int) : Op Int := do
  require (isN w) EILLINS
  pure w
/-- `argx`: class x. -/
def argx (w : Int) : Op Int := do
  require (isX w) EILLINS
  pure w
/-- `argp`: class p. -/
def argp (w : Int) : Op Int := do
  require (isP w) EILLINS
  pure w
/-- `argy`: class y. -/
def argy (w : Int) : Op Int := do
  require (isY w) EILLINS
  pure w
/-- `argz`: class z. -/
def argz (w : Int) : Op Int := do
  require (isZ w) EILLINS
  pure w

/-- `chkovf`: the result is returned as it stands; EIOVFL is not fatal. -/
def chkovf (z : Int) : Op Int := do
  require (!overflows z) EIOVFL
  pure z

/-! ## Popped operands (R235) -/

/-- `t <- argi(popw()); s <- argi(popw())`: the operands (s, t) of integer arithmetic. -/
def popIntegers : Op (Int × Int) := do
  let t0 ← popw
  let t ← argi t0
  let s0 ← popw
  let s ← argi s0
  pure (s, t)

/-- `t <- popw(); s <- popw()`: two signed words (s, t). -/
def popWordPair : Op (Int × Int) := do
  let t ← popw
  let s ← popw
  pure (s, t)

/-- `a <- popa(); b <- popa()`: two pointers (b, a). -/
def popPointers : Op (Int × Int) := do
  let a ← popa
  let b ← popa
  pure (b, a)

/-- The next unconstrained word (decision D15; log entry 4). -/
def freshWord : Op Word := fun s => .ok (Config.freeWord s.freeCount) { s with freeCount := s.freeCount + 1 }

/-! ## Loops -/

/-- Follow `n` static links from the frame at `a` (R210, R351). -/
def followLinks : Nat → Int → Op Int
  | 0, a => pure a
  | n + 1, a => do
    let b ← mema (a - Config.statd)
    followLinks n b

/-- Copy `n` words from `s` to `t`, low to high addresses (R357, R368). -/
def moveWords : Nat → Int → Int → Op Unit
  | 0, _, _ => pure ()
  | n + 1, t, s => do
    let w ← memw s
    store t w
    moveWords n (t + 2) (s + 2)

/-- A procedure number from 0 to NPROC - 1, else EPROC (decision D14). -/
def requireProc (n : Int) : Op Unit := fun s => require (decide (0 ≤ n) && decide (n < s.nproc)) EPROC s

/-- Call a procedure (R355): the descriptor of `k` gives the parameter bytes and the base; PC goes into the mark
block. A negative number is EPROC by decision D14, where the `argn` of R355 and R118 would make it EILLINS (log entry
25). -/
def call (k : Int) : Op Unit := do
  requireProc k
  let s ← get
  let t ← memi (s.pdI + (Config.pdsiz : Int) * k + (Config.pdargs : Int))
  store (s.spI + 2 - t - Config.reta) s.pcI
  let base ← procBase k
  newpc base
  newlb (s.spI + 2 - t)
  setNormalmap true

/-- Push a mark block (R351, R353): `k` static links are followed from LB. -/
def mark (normal : Bool) (k : Int) : Op Unit := do
  let k ← argn k
  let s ← get
  let a ← followLinks k.toNat s.lbI
  push a
  push s.lbI
  push 0
  setNormalmap normal

/-- Leave a procedure with a result of `k` bytes (R357). -/
def leave (k : Int) : Op Unit := do
  let k ← argx k
  let s ← get
  let ret ← mema (s.lbI - Config.reta)
  newpc ret
  let link ← mema (s.lbI - Config.dynd)
  newlb link
  moveWords (k / 2).toNat (s.lbI - Config.mrksize) (s.spI - k + 2)
  newsp (s.lbI - Config.mrksize - 2 + k)

/-- `lino(w)`: set the line number word; ELIN is not fatal and the store is made anyway (R67, R376). -/
def lino (w : Int) : Op Unit := do
  let s ← get
  require (decide (0 ≤ w) && decide (w ≤ s.nline)) ELIN
  store 0 w

/-- A forward branch, whose distance is checked only when it is taken (R330). -/
def branchIf (c : Bool) (k : Int) : Op Unit :=
  if c then do
    let k ← argn k
    let s ← get
    newpc (s.pcI + k)
  else pure ()

/-- Subscript calculation with the descriptor at `c` (R305): EARRAY is not fatal, EODDZ is. -/
def arraycalc (c : Int) : Op Int := do
  let i ← popw
  let lower ← memw c
  let range ← memw (c + 2)
  require (decide (0 ≤ i - lower) && decide (i - lower ≤ range)) EARRAY
  let size ← memw (c + 4)
  require (decide (0 ≤ size) && (decide (size ≤ 1) || decide (size % 2 = 0))) EODDZ
  let base ← popa
  pure ((i - lower) * size + base)

end Sys2Proof.Machine
end

