-- ==== Sys2Proof/Machine/Arith.lean ====
section
/-! DEFINITION. Group 3, single precision integer arithmetic (42_arithmetic.md R235 to R243). -/

namespace Sys2Proof.Machine

/-- `repeat n times: sleft(w)` (R17): a refused step raises EIOVFL and leaves the word. -/
def sleftTimes : Nat → Int → Op Int
  | 0, w => pure w
  | n + 1, w =>
    if overflowsLeft w then do
      trap EIOVFL
      sleftTimes n w
    else sleftTimes n (2 * w)

/-- `repeat n times: sright(w)` (R17). -/
def srightTimes : Nat → Int → Int
  | 0, w => w
  | n + 1, w => srightTimes n (w / 2)

/-- ADD (R236). -/
def execAdd (s : State) : Result :=
  runOp (do
    let (s, t) ← popIntegers
    let z ← chkovf (s + t)
    push z) s

/-- SUB (R237). -/
def execSub (s : State) : Result :=
  runOp (do
    let (s, t) ← popIntegers
    let z ← chkovf (s - t)
    push z) s

/-- MUL (R238). -/
def execMul (s : State) : Result :=
  runOp (do
    let (s, t) ← popIntegers
    let z ← chkovf (s * t)
    push z) s

/-- DIV (R239): nothing is pushed after EIDIVZ, and the quotient is not tested for overflow, whatever row 8 of R411 lists
(log entry 25). -/
def execDiv (s : State) : Result :=
  runOp (do
    let (s, t) ← popIntegers
    if t = 0 then trap EIDIVZ else push (Int.tdiv s t)) s

/-- MOD (R240): nothing is pushed after EIDIVZ. -/
def execMod (s : State) : Result :=
  runOp (do
    let (s, t) ← popIntegers
    if t = 0 then trap EIDIVZ else push (s - Int.tdiv s t * t)) s

/-- NEG (R241). -/
def execNeg (s : State) : Result :=
  runOp (do
    let t0 ← popw
    let t ← argi t0
    push (-t)) s

/-- SHL (R242): EIOVFL at every step that refuses to double. -/
def execShl (s : State) : Result :=
  runOp (do
    let (s, t) ← popIntegers
    if 0 ≤ t ∧ t ≤ 15 then do
      let z ← sleftTimes t.toNat s
      push z
    else do
      let w ← freshWord
      push (adr w)) s

/-- SHR (R243). -/
def execShr (s : State) : Result :=
  runOp (do
    let (s, t) ← popIntegers
    if 0 ≤ t ∧ t ≤ 15 then push (srightTimes t.toNat s)
    else do
      let w ← freshWord
      push (adr w)) s

end Sys2Proof.Machine
end

