-- ==== Sys2Proof/Machine/Numbers.lean ====
section
/-! DEFINITION. Doubles and reals on the stack (42_arithmetic.md R244): the parameter functions are those of Config,
with the restrictions decision D10 and R244 put on them. -/

namespace Sys2Proof.Machine

/-! ## Double precision integers -/

/-- `DblDecode`, with R244's range: none for the undefined double. -/
def dblValue (w0 w1 : Word) : Option Int :=
  match Config.dblDecode w0 w1 with
  | some d => if overflowsDouble d then none else some d
  | none => none

/-- The value of an operand after the check of decision D27: an undefined double raises EDUND, which is not fatal, and
counts as a free value (log entry 6). -/
def dblOperand (w0 w1 : Word) : Op Int :=
  match dblValue w0 w1 with
  | some d => pure d
  | none => do
    trap EDUND
    pure (Config.dblUndefined w0 w1)

/-- `popd()`: the word on top is the one at the higher address (R244). -/
def popd : Op Int := do
  let w1 ← popw
  let w0 ← popw
  dblOperand (u16 w0) (u16 w1)

/-- `pushd(d)` (R244). -/
def pushd (d : Int) : Op Unit := do
  push (adr (Config.dblEncode d).1)
  push (adr (Config.dblEncode d).2)

/-- `dt <- popd(); ds <- popd()`: the operands (ds, dt). -/
def popDoubles : Op (Int × Int) := do
  let dt ← popd
  let ds ← popd
  pure (ds, dt)

/-- Whether EDOVFL is raised: the exact result is outside the double range (R245), and the parameter arithmetic
reports it (decision D27, R411 row 9; log entry 5). -/
def reportsDoubleOverflow (op : DoubleOp) (ds dt exact : Int) : Bool :=
  overflowsDouble exact && Config.dblReport op ds dt

/-- Push what the parameter arithmetic `DoubleOps` gives for DAD, DSB or DMU: the operation, its operands and the exact
result. -/
def pushDoubleResult (op : DoubleOp) (ds dt exact : Int) : Op Unit := do
  require (!reportsDoubleOverflow op ds dt exact) EDOVFL
  pushd (Config.dblResult op ds dt exact)

/-- Push a result of DDV or DMD, which decision D10 fixes; for a zero divisor EIDIVZ is raised and nothing pushed (R248,
R249). -/
def pushDoubleQuotient (dt exact : Int) : Op Unit :=
  if dt = 0 then trap EIDIVZ else pushd exact

/-! ## Reals -/

/-- The value of a real operand: an undefined real raises EFUND and counts as a free value (log entry 8). -/
def fltOperand (w0 w1 : Word) : Op Rat :=
  match Config.fltDecode w0 w1 with
  | some r => pure r
  | none => do
    trap EFUND
    pure (Config.fltUndefined w0 w1)

/-- `popr()` (R244). -/
def popr : Op Rat := do
  let w1 ← popw
  let w0 ← popw
  fltOperand (u16 w0) (u16 w1)

/-- `pushr(r)` (R244). -/
def pushr (r : Rat) : Op Unit := do
  push (adr (Config.fltEncode r).1)
  push (adr (Config.fltEncode r).2)

/-- `rt <- popr(); rs <- popr()`: the operands (rs, rt). -/
def popReals : Op (Rat × Rat) := do
  let rt ← popr
  let rs ← popr
  pure (rs, rt)

/-- The error number of a reported condition (R411 rows 10, 11, 20). -/
def floatTrapNumber : FloatTrap → Byte
  | .overflow => EFOVFL
  | .underflow => EFUNFL
  | .hardware => EFPP

/-- Raise the conditions the parameter arithmetic reports, in the order it reports them. -/
def raiseReports : List FloatTrap → Op Unit
  | [] => pure ()
  | c :: cs => do
    trap (floatTrapNumber c)
    raiseReports cs

/-- A result of the parameter arithmetic `FloatOps`, with the conditions it reports (decision D27): the operation, its
operands and the exact result. -/
def floatResult (op : FloatOp) (rs rt exact : Rat) : Op Rat := do
  raiseReports (Config.fltReport op rs rt)
  pure (Config.fltResult op rs rt exact)

/-- The integer part, truncated toward zero (R254, decision D10). -/
def truncRat (r : Rat) : Int := Int.tdiv r.num r.den

/-- `round(r)`: nearest, halves away from zero (R9, G2). -/
def roundRat (r : Rat) : Int :=
  if 0 ≤ r then (r + 1 / 2).floor else -((-r + 1 / 2).floor)

/-- A power of two. -/
def pow2 : Int → Rat
  | .ofNat n => (2 : Rat) ^ n
  | .negSucc n => 1 / (2 : Rat) ^ (n + 1)

/-- The exponent of a real (R255): 0 for zero, else the i with 2^(i-1) <= |r| < 2^i. -/
def exponentOf (r : Rat) : Int :=
  if r = 0 then 0
  else
    let e := (Nat.log2 r.num.natAbs : Int) - (Nat.log2 r.den : Int)
    if (if 0 ≤ r then r else -r) < pow2 e then e else e + 1

/-- The mantissa of a real (R255): 0 for zero, else x with 0.5 <= |x| < 1. -/
def mantissaOf (r : Rat) : Rat := r / pow2 (exponentOf r)

end Sys2Proof.Machine
end

