-- ==== Sys2Proof/Machine/ArrayCompare.lean ====
section
/-! DEFINITION. Groups 11 and 12: array and compare (45_array_compare.md R305 to R325). -/

namespace Sys2Proof.Machine

/-- LAR and LAS after the descriptor address is known (R306). -/
def loadElement (k : Int) : Op Unit := do
  let x ← argx k
  let a ← arraycalc x
  let size ← memw (x + 4)
  pushx size a

/-- SAR and SAS after the descriptor address is known (R308). -/
def storeElement (k : Int) : Op Unit := do
  let x ← argx k
  let a ← arraycalc x
  let size ← memw (x + 4)
  popx size a

/-- AAR and AAS after the descriptor address is known (R310). -/
def elementAddress (k : Int) : Op Unit := do
  let x ← argx k
  let a ← arraycalc x
  push a

/-- The loop of R317, `n` pairs left and the `j`-th byte pair next: the first difference from the top decides. -/
def blockcmpWords (k : Int) : Nat → Int → Op Int
  | 0, _ => pure 0
  | n + 1, j => do
    let s ← get
    let a ← mema (s.spI - j)
    let b ← mema (s.spI - k - j)
    if b < a then pure (-1) else if a < b then pure 1 else blockcmpWords k n (j + 2)

/-- `blockcmp(k)` (R317). -/
def blockcmp (k : Int) : Op Unit := do
  let k ← argp k
  let t ← blockcmpWords k (k / 2).toNat 0
  let s ← get
  newsp (s.spI - 2 * k)
  push t

/-- LAR (R306). -/
def execLar (k : Int) (s : State) : Result :=
  runOp (loadElement k) s

/-- LAS (R307). -/
def execLas (s : State) : Result :=
  runOp (do
    let c ← popa
    loadElement c) s

/-- SAR (R308). -/
def execSar (k : Int) (s : State) : Result :=
  runOp (storeElement k) s

/-- SAS (R309). -/
def execSas (s : State) : Result :=
  runOp (do
    let c ← popa
    storeElement c) s

/-- AAR (R310). -/
def execAar (k : Int) (s : State) : Result :=
  runOp (elementAddress k) s

/-- AAS (R311). -/
def execAas (s : State) : Result :=
  runOp (do
    let c ← popa
    elementAddress c) s

/-- CMI (R313). -/
def execCmi (s : State) : Result :=
  runOp (do
    let (s, t) ← popWordPair
    push (compareInt s t)) s

/-- CMD (R314). -/
def execCmd (s : State) : Result :=
  runOp (do
    let (ds, dt) ← popDoubles
    push (compareInt ds dt)) s

/-- CMF (R315). -/
def execCmf (s : State) : Result :=
  runOp (do
    let (rs, rt) ← popReals
    push (compareRat rs rt)) s

/-- CMP (R316). -/
def execCmp (s : State) : Result :=
  runOp (do
    let (b, a) ← popPointers
    push (compareInt b a)) s

/-- CMU (R318). -/
def execCmu (k : Int) (s : State) : Result :=
  runOp (blockcmp k) s

/-- CMS (R319). -/
def execCms (s : State) : Result :=
  runOp (do
    let k ← popw
    blockcmp k) s

/-- TLT (R320). -/
def execTlt (s : State) : Result :=
  runOp (do
    let w ← popw
    push (ofBool (decide (w < 0)))) s

/-- TLE (R321). -/
def execTle (s : State) : Result :=
  runOp (do
    let w ← popw
    push (ofBool (decide (w ≤ 0)))) s

/-- TEQ (R322). -/
def execTeq (s : State) : Result :=
  runOp (do
    let w ← popw
    push (ofBool (decide (w = 0)))) s

/-- TNE (R323). -/
def execTne (s : State) : Result :=
  runOp (do
    let w ← popw
    push (ofBool (decide (w ≠ 0)))) s

/-- TGE (R324). -/
def execTge (s : State) : Result :=
  runOp (do
    let w ← popw
    push (ofBool (decide (w ≥ 0)))) s

/-- TGT (R325). -/
def execTgt (s : State) : Result :=
  runOp (do
    let w ← popw
    push (ofBool (decide (w > 0)))) s

end Sys2Proof.Machine
end

