-- ==== Sys2Proof/Machine/Branch.lean ====
section
/-! DEFINITION. Group 13, branch (46_branch.md R330 to R344). -/

namespace Sys2Proof.Machine

/-- BRF (R331). -/
def execBrf (k : Int) (s : State) : Result :=
  runOp (branchIf true k) s

/-- BRB (R332). -/
def execBrb (k : Int) (s : State) : Result :=
  runOp (do
    let n ← argn k
    let s ← get
    newpc (s.pcI - n)) s

/-- BLT (R333). -/
def execBlt (k : Int) (s : State) : Result :=
  runOp (do
    let (s, t) ← popWordPair
    branchIf (decide (s < t)) k) s

/-- BLE (R334). -/
def execBle (k : Int) (s : State) : Result :=
  runOp (do
    let (s, t) ← popWordPair
    branchIf (decide (s ≤ t)) k) s

/-- BEQ (R335). -/
def execBeq (k : Int) (s : State) : Result :=
  runOp (do
    let (s, t) ← popWordPair
    branchIf (decide (s = t)) k) s

/-- BNE (R336). -/
def execBne (k : Int) (s : State) : Result :=
  runOp (do
    let (s, t) ← popWordPair
    branchIf (decide (s ≠ t)) k) s

/-- BGE (R337). -/
def execBge (k : Int) (s : State) : Result :=
  runOp (do
    let (s, t) ← popWordPair
    branchIf (decide (s ≥ t)) k) s

/-- BGT (R338). -/
def execBgt (k : Int) (s : State) : Result :=
  runOp (do
    let (s, t) ← popWordPair
    branchIf (decide (s > t)) k) s

/-- ZLT (R339). -/
def execZlt (k : Int) (s : State) : Result :=
  runOp (do
    let w ← popw
    branchIf (decide (w < 0)) k) s

/-- ZLE (R340). -/
def execZle (k : Int) (s : State) : Result :=
  runOp (do
    let w ← popw
    branchIf (decide (w ≤ 0)) k) s

/-- ZEQ (R341). -/
def execZeq (k : Int) (s : State) : Result :=
  runOp (do
    let w ← popw
    branchIf (decide (w = 0)) k) s

/-- ZNE (R342). -/
def execZne (k : Int) (s : State) : Result :=
  runOp (do
    let w ← popw
    branchIf (decide (w ≠ 0)) k) s

/-- ZGE (R343). -/
def execZge (k : Int) (s : State) : Result :=
  runOp (do
    let w ← popw
    branchIf (decide (w ≥ 0)) k) s

/-- ZGT (R344). -/
def execZgt (k : Int) (s : State) : Result :=
  runOp (do
    let w ← popw
    branchIf (decide (w > 0)) k) s

end Sys2Proof.Machine
end

