-- ==== Sys2Proof/Machine/Call.lean ====
section
/-! DEFINITION. Group 14, procedure call (47_procedure_call.md R350 to R358). -/

namespace Sys2Proof.Machine

/-- MRK (R351). -/
def execMrk (k : Int) (s : State) : Result :=
  runOp (mark true k) s

/-- MRS (R352): the popped word is a level count. -/
def execMrs (s : State) : Result :=
  runOp (do
    let k ← popw
    mark true k) s

/-- MRX (R353). -/
def execMrx (k : Int) (s : State) : Result :=
  runOp (mark false k) s

/-- MXS (R354). -/
def execMxs (s : State) : Result :=
  runOp (do
    let k ← popw
    mark false k) s

/-- CAL (R355). -/
def execCal (k : Int) (s : State) : Result :=
  runOp (call k) s

/-- CAS (R356). -/
def execCas (s : State) : Result :=
  runOp (do
    let k ← popw
    call k) s

/-- RET (R357). -/
def execRet (k : Int) (s : State) : Result :=
  runOp (leave k) s

/-- RES (R358). -/
def execRes (s : State) : Result :=
  runOp (do
    let k ← popw
    leave k) s

end Sys2Proof.Machine
end

