-- ==== Sys2Proof/Machine/DoubleFloat.lean ====
section
/-! DEFINITION. Groups 4, 5 and 8: double precision, floating point, convert (42_arithmetic.md R245 to R255, 43_pointer_incdec_convert.md R271 to R276). -/

namespace Sys2Proof.Machine

/-- DAD (R245). -/
def execDad (s : State) : Result :=
  runOp (do
    let (ds, dt) ← popDoubles
    pushDoubleResult .dad ds dt (ds + dt)) s

/-- DSB (R246). -/
def execDsb (s : State) : Result :=
  runOp (do
    let (ds, dt) ← popDoubles
    pushDoubleResult .dsb ds dt (ds - dt)) s

/-- DMU (R247). -/
def execDmu (s : State) : Result :=
  runOp (do
    let (ds, dt) ← popDoubles
    pushDoubleResult .dmu ds dt (ds * dt)) s

/-- DDV (R248): the quotient truncated toward zero (decision D10); nothing is pushed after EIDIVZ. -/
def execDdv (s : State) : Result :=
  runOp (do
    let (ds, dt) ← popDoubles
    pushDoubleQuotient dt (Int.tdiv ds dt)) s

/-- DMD (R249): the remainder with the sign of the dividend (decision D10); nothing is pushed after EIDIVZ. -/
def execDmd (s : State) : Result :=
  runOp (do
    let (ds, dt) ← popDoubles
    pushDoubleQuotient dt (ds - Int.tdiv ds dt * dt)) s

/-- FAD (R250). -/
def execFad (s : State) : Result :=
  runOp (do
    let (rs, rt) ← popReals
    let r ← floatResult .fad rs rt (rs + rt)
    pushr r) s

/-- FSB (R251). -/
def execFsb (s : State) : Result :=
  runOp (do
    let (rs, rt) ← popReals
    let r ← floatResult .fsb rs rt (rs - rt)
    pushr r) s

/-- FMU (R252). -/
def execFmu (s : State) : Result :=
  runOp (do
    let (rs, rt) ← popReals
    let r ← floatResult .fmu rs rt (rs * rt)
    pushr r) s

/-- FDV (R253): after EFDIVZ what is pushed is the parameter's choice; nothing else is reported then (log entry 9). -/
def execFdv (s : State) : Result :=
  runOp (do
    let (rs, rt) ← popReals
    if rt = 0 then do
      trap EFDIVZ
      push (adr (Config.fltDivByZero rs).1)
      push (adr (Config.fltDivByZero rs).2)
    else do
      let r ← floatResult .fdv rs rt (rs / rt)
      pushr r) s

/-- FIF (R254): the integer part ends on top. -/
def execFif (s : State) : Result :=
  runOp (do
    let (rs, rt) ← popReals
    let r ← floatResult .fif rs rt (rs * rt)
    pushr (r - (truncRat r : Rat))
    pushr (truncRat r : Rat)) s

/-- FEF (R255): the exponent ends on top. -/
def execFef (s : State) : Result :=
  runOp (do
    let rt ← popr
    require (!Config.fefReport rt) EFPP
    pushr (mantissaOf rt)
    push (exponentOf rt)) s

/-- CID (R271). -/
def execCid (s : State) : Result :=
  runOp (do
    let w ← popw
    pushd w) s

/-- CDI (R272): nothing is pushed after ECDI. -/
def execCdi (s : State) : Result :=
  runOp (do
    let d ← popd
    if 32767 < d.natAbs then trap ECDI else push d) s

/-- CIF (R273). -/
def execCif (s : State) : Result :=
  runOp (do
    let w ← popw
    pushr (w : Rat)) s

/-- CFI (R274): nothing is pushed after ECFI. -/
def execCfi (s : State) : Result :=
  runOp (do
    let r ← popr
    if r < -(65533 / 2) ∨ 65533 / 2 < r then trap ECFI else push (roundRat r)) s

/-- CDF (R275). -/
def execCdf (s : State) : Result :=
  runOp (do
    let d ← popd
    pushr (d : Rat)) s

/-- CFD (R276): after ECFD four bytes of any value are pushed. -/
def execCfd (s : State) : Result :=
  runOp (do
    let r ← popr
    if r < -(4294967293 / 2) ∨ 4294967293 / 2 < r then do
      trap ECFD
      let w0 ← freshWord
      let w1 ← freshWord
      push (adr w0)
      push (adr w1)
    else pushd (roundRat r)) s

end Sys2Proof.Machine
end

