-- ==== Sys2Proof/Machine/Fetch.lean ====
section
/-! DEFINITION. Fetching an instruction (R13, R22, R102) and what a step does around it (R414). -/

namespace Sys2Proof.Machine

/-- At most `n` bytes from code address `a` that can be fetched: the PC after each is at most `pd` (R14, R22). -/
def State.fetchable (s : State) : Nat → Nat → List Byte
  | 0, _ => []
  | n + 1, a => if a < s.pd.toNat then s.code.read a :: State.fetchable s n (a + 1) else []

/-- The bytes at PC, up to the length of the longest instruction (R100). -/
def State.window (s : State) : List Byte := s.fetchable 4 s.pc.toNat

/-- PC past `n` bytes (R102, R120). -/
def State.advance (s : State) (n : Nat) : State := s.setPc (s.pcI + (n : Int))

/-- The fetch of a byte at address `pd` or above: the bytes before it have been fetched, then `newpc` raises EPC
(R22). -/
def fetchFails (n : Nat) : Op Unit := fun s => stop (.aborted EPC) (s.advance n)

/-- The end of a step: pending traps are delivered (R102, R414). -/
def afterExec (o : Result) : Result :=
  match o with
  | .next s => runOp deliver s
  | .fault r => .fault r
  | .refused r => .refused r

end Sys2Proof.Machine
end

