-- ==== Sys2Proof/Machine/Load.lean ====
section
/-! DEFINITION. Group 1, load (40_load.md R201 to R215). -/

namespace Sys2Proof.Machine

/-- LOC (R201). -/
def execLoc (k : Int) (s : State) : Result :=
  runOp (push k) s

/-- LNC (R202). -/
def execLnc (k : Int) (s : State) : Result :=
  runOp (push (-k)) s

/-- LOL (R203). -/
def execLol (k : Int) (s : State) : Result :=
  runOp (do
    let x ← argx k
    let s ← get
    let w ← memw (s.lbI + x)
    push w) s

/-- LOE (R204). -/
def execLoe (k : Int) (s : State) : Result :=
  runOp (do
    let x ← argx k
    let w ← memw x
    push w) s

/-- LOP (R205). -/
def execLop (k : Int) (s : State) : Result :=
  runOp (do
    let x ← argx k
    let s ← get
    let p ← mema (s.lbI + x)
    let w ← memw p
    push w) s

/-- LAI (R206): the pointer is updated before the object is read. -/
def execLai (k : Int) (s : State) : Result :=
  runOp (do
    let y ← argy k
    let a ← popa
    let b ← mema a
    store a (b + y)
    pushx y b) s

/-- LOF (R207): the sum is not wrapped. -/
def execLof (k : Int) (s : State) : Result :=
  runOp (do
    let p ← popa
    let w ← memw (p + k)
    push w) s

/-- LAL (R208). -/
def execLal (k : Int) (s : State) : Result :=
  runOp (do
    let x ← argx k
    let s ← get
    push (s.lbI + x)) s

/-- LAE (R209). -/
def execLae (k : Int) (s : State) : Result :=
  runOp (do
    let x ← argx k
    push x) s

/-- LEX (R210). -/
def execLex (k : Int) (s : State) : Result :=
  runOp (do
    let n ← argn k
    let s ← get
    let a ← followLinks n.toNat s.lbI
    push a) s

/-- LOI (R211). -/
def execLoi (k : Int) (s : State) : Result :=
  runOp (do
    let y ← argy k
    let p ← popa
    pushx y p) s

/-- LOS (R212): the size is unsigned. -/
def execLos (s : State) : Result :=
  runOp (do
    let n ← popa
    let y ← argy n
    let p ← popa
    pushx y p) s

/-- LDL (R213). -/
def execLdl (k : Int) (s : State) : Result :=
  runOp (do
    let x ← argx k
    let s ← get
    pushWords 2 (s.lbI + x)) s

/-- LDE (R214). -/
def execLde (k : Int) (s : State) : Result :=
  runOp (do
    let x ← argx k
    pushWords 2 x) s

/-- LDF (R215). -/
def execLdf (k : Int) (s : State) : Result :=
  runOp (do
    let a ← popa
    pushWords 2 (a + k)) s

end Sys2Proof.Machine
end

