-- ==== Sys2Proof/Machine/Logical.lean ====
section
/-! DEFINITION. Groups 9 and 10: logical and sets (44_logical_sets.md R285 to R300). -/

namespace Sys2Proof.Machine

/-- The loop of R285, `n` words left: the top word of B is popped and combined with its word of A, `k` bytes below. -/
def logicalWords (op : Word → Word → Word) (k : Int) : Nat → Op Unit
  | 0 => pure ()
  | n + 1 => do
    let t ← popw
    let s ← get
    let w ← memw (s.spI - k + 2)
    store (s.spI - k + 2) (adr (op (u16 w) (u16 t)))
    logicalWords op k n

/-- `logical(op, k)` (R285). -/
def logical (op : Word → Word → Word) (k : Int) : Op Unit := do
  let k ← argp k
  logicalWords op k (k / 2).toNat

/-- Complement `n` words from address `a` up (R292). -/
def complementWords : Nat → Int → Op Unit
  | 0, _ => pure ()
  | n + 1, a => do
    let w ← memw a
    store a (adr (~~~ (u16 w)))
    complementWords n (a + 2)

/-- COM and COS after the size is known (R292). -/
def complement (k : Int) : Op Unit := do
  let k ← argp k
  let s ← get
  complementWords (k / 2).toNat (s.spI - k + 2)

/-- `rleft(w)`: rotate the 16 bits left by one (R17). -/
def rleft (w : Word) : Word := (w <<< 1) ||| (w >>> 15)

/-- `rright(w)`: rotate the 16 bits right by one (R17). -/
def rright (w : Word) : Word := (w >>> 1) ||| (w <<< 15)

/-- `repeat n times: rleft(w)`. -/
def rleftTimes : Nat → Word → Word
  | 0, w => w
  | n + 1, w => rleftTimes n (rleft w)

/-- `repeat n times: rright(w)`. -/
def rrightTimes : Nat → Word → Word
  | 0, w => w
  | n + 1, w => rrightTimes n (rright w)

/-- `bit(b, w)` (R17). -/
def bit (b : Nat) (w : Word) : Int := ofBool (w.getLsbD b)

/-- Element number `n` is not in a set of `k` bytes (R297, R299). -/
def outsideSet (n k : Int) : Bool := decide (n < 0) || decide (k ≤ 2 * (n / 16))

/-- INN and INS after the size is known (R297, decision D21). -/
def testBit (k : Int) : Op Unit := do
  let k ← argp k
  let n ← popw
  let s ← get
  if outsideSet n k then do
    trap ESET
    newsp (s.spI - k)
    push 0
  else do
    let w ← memw (s.spI - k + 2 + 2 * (n / 16))
    newsp (s.spI - k)
    push (bit (n % 16).toNat (u16 w))

/-- SET and SES after the size is known (R299, decision D21). -/
def singleton (k : Int) : Op Unit := do
  let k ← argp k
  let n ← popw
  if outsideSet n k then do
    trap ESET
    pushTimes 0 (k / 2).toNat
  else do
    pushTimes 0 (n / 16).toNat
    push (2 ^ (n % 16).toNat)
    pushTimes 0 (k / 2 - n / 16 - 1).toNat

/-- AND (R286). -/
def execAnd (k : Int) (s : State) : Result :=
  runOp (logical (· &&& ·) k) s

/-- ANS (R287). -/
def execAns (s : State) : Result :=
  runOp (do
    let k ← popw
    logical (· &&& ·) k) s

/-- IOR (R288). -/
def execIor (k : Int) (s : State) : Result :=
  runOp (logical (· ||| ·) k) s

/-- IOS (R289). -/
def execIos (s : State) : Result :=
  runOp (do
    let k ← popw
    logical (· ||| ·) k) s

/-- XOR (R290). -/
def execXor (k : Int) (s : State) : Result :=
  runOp (logical (· ^^^ ·) k) s

/-- XOS (R291). -/
def execXos (s : State) : Result :=
  runOp (do
    let k ← popw
    logical (· ^^^ ·) k) s

/-- COM (R292). -/
def execCom (k : Int) (s : State) : Result :=
  runOp (complement k) s

/-- COS (R293). -/
def execCos (s : State) : Result :=
  runOp (do
    let k ← popw
    complement k) s

/-- ROL (R294). -/
def execRol (s : State) : Result :=
  runOp (do
    let (s, t) ← popWordPair
    if 0 ≤ t ∧ t ≤ 15 then push (adr (rleftTimes t.toNat (u16 s)))
    else do
      let w ← freshWord
      push (adr w)) s

/-- ROR (R295). -/
def execRor (s : State) : Result :=
  runOp (do
    let (s, t) ← popWordPair
    if 0 ≤ t ∧ t ≤ 15 then push (adr (rrightTimes t.toNat (u16 s)))
    else do
      let w ← freshWord
      push (adr w)) s

/-- INN (R297). -/
def execInn (k : Int) (s : State) : Result :=
  runOp (testBit k) s

/-- INS (R298). -/
def execIns (s : State) : Result :=
  runOp (do
    let k ← popw
    testBit k) s

/-- SET (R299). -/
def execSet (k : Int) (s : State) : Result :=
  runOp (singleton k) s

/-- SES (R300). -/
def execSes (s : State) : Result :=
  runOp (do
    let k ← popw
    singleton k) s

end Sys2Proof.Machine
end

