-- ==== Sys2Proof/Machine/Misc.lean ====
section
/-! DEFINITION. Group 15, miscellaneous, but for MON (48_miscellaneous.md R365 to R399). -/

namespace Sys2Proof.Machine

/-- BEG and BES after the size is known (R366). -/
def reserve (k : Int) : Op Unit := do
  let z ← argz k
  let s ← get
  if 0 ≤ z then pushTimes Config.undef (z / 2).toNat else newsp (s.spI + z)

/-- BLM and BLS after the size is known (R368). -/
def blockMove (k : Int) : Op Unit := do
  let x ← argx k
  let t ← popa
  let s ← popa
  moveWords (x / 2).toNat t s

/-- The base of the procedure a case descriptor names (R370, decision D14). -/
def caseBase (c : Int) : Op Int := do
  let p ← memw c
  requireProc p
  procBase p

/-- The end of a case jump (R370): the offset -1 means there is no target. -/
def caseJump (base offset : Int) : Op Unit :=
  if offset = -1 then trap ECASE else newpc (base + offset)

/-- The address of the first of `n` entries from address `a` whose case value is `t` (R371). -/
def searchCase (t : Int) : Nat → Int → Op (Option Int)
  | 0, _ => pure none
  | n + 1, a => do
    let v ← memw a
    if t = v then pure (some a) else searchCase t n (a + 4)

/-- Push `n` times the word `k` bytes deep (R372). -/
def duplicateWords (k : Int) : Nat → Op Unit
  | 0 => pure ()
  | n + 1 => do
    let s ← get
    let w ← memw (s.spI - k + 2)
    push w
    duplicateWords k n

/-- DUP and DUS after the size is known (R372). -/
def duplicate (k : Int) : Op Unit := do
  let k ← argp k
  duplicateWords k (k / 2).toNat

/-- RCK and RCS after the descriptor address is known (R381). -/
def rangeCheck (k : Int) : Op Unit := do
  let x ← argx k
  let s ← get
  let w ← memw s.spI
  let lower ← memw x
  let upper ← memw (x + 2)
  require (decide (lower ≤ w) && decide (w ≤ upper)) ERANGE

/-- `uerrorproc <- proc; uerrorlb <- link` (R384). -/
def setErrorProc (link proc : Word) : Op Unit := fun s =>
  .ok () { s with uerrorlb := link, uerrorproc := proc }

/-- BEG (R366). -/
def execBeg (k : Int) (s : State) : Result :=
  runOp (reserve k) s

/-- BES (R367). -/
def execBes (s : State) : Result :=
  runOp (do
    let k ← popw
    reserve k) s

/-- BLM (R368). -/
def execBlm (k : Int) (s : State) : Result :=
  runOp (blockMove k) s

/-- BLS (R369). -/
def execBls (s : State) : Result :=
  runOp (do
    let k ← popw
    blockMove k) s

/-- CSA (R370). Both bounds are read, the upper one also where the index is below the lower one (log entry 20). -/
def execCsa (s : State) : Result :=
  runOp (do
    let c ← popa
    let b ← caseBase c
    let index ← popw
    let lower ← memw (c + 4)
    let range ← memw (c + 6)
    let t := index - lower
    let s ← if 0 ≤ t ∧ t ≤ range then memw (c + 8 + 2 * t) else pure (-1)
    let s ← if s = -1 then memw (c + 2) else pure s
    caseJump b s) s

/-- CSB (R371): the default is not tried for a matching entry, whatever row 4 of R411 says (log entry 25). -/
def execCsb (s : State) : Result :=
  runOp (do
    let c ← popa
    let b ← caseBase c
    let t ← popw
    let n ← memw (c + 4)
    let found ← searchCase t n.toNat (c + 6)
    let s ← match found with
      | some a => memw (a + 2)
      | none => memw (c + 2)
    caseJump b s) s

/-- DUP (R372). -/
def execDup (k : Int) (s : State) : Result :=
  runOp (duplicate k) s

/-- DUS (R373). -/
def execDus (s : State) : Result :=
  runOp (do
    let k ← popw
    duplicate k) s

/-- EXG (R374). -/
def execExg (s : State) : Result :=
  runOp (do
    let (s, t) ← popWordPair
    push t
    push s) s

/-- HLT (R375). -/
def execHlt (s : State) : Result :=
  runOp (do
    let w ← popw
    stop (.halted (u16 w))) s

/-- LIN (R376). -/
def execLin (k : Int) (s : State) : Result :=
  runOp (do
    let n ← argn k
    lino n) s

/-- LNI (R377): no test for the undefined integer or overflow, whatever rows 8 and 14 of R411 list (log entry 25). -/
def execLni (s : State) : Result :=
  runOp (do
    let w ← memw 0
    lino (w + 1)) s

/-- LOR (R378, decision D17). -/
def execLor (k : Int) (s : State) : Result :=
  runOp (do
    let s ← get
    match k with
    | 0 => push s.lbI
    | 1 => push s.spI
    | 2 => push s.hpI
    | _ => trap EILLINS) s

/-- NOP (R380). -/
def execNop (s : State) : Result :=
  runOp (pure ()) s

/-- RCK (R381). -/
def execRck (k : Int) (s : State) : Result :=
  runOp (rangeCheck k) s

/-- RCS (R382). -/
def execRcs (s : State) : Result :=
  runOp (do
    let c ← popa
    rangeCheck c) s

/-- RTT (R383). -/
def execRtt (s : State) : Result :=
  runOp (returnFromTrap) s

/-- SIG (R384). -/
def execSig (s : State) : Result :=
  runOp (do
    let a ← popa
    let b ← popa
    let s ← get
    push (adr s.uerrorlb)
    push (adr s.uerrorproc)
    setErrorProc (u16 b) (u16 a)) s

/-- STR (R385, decision D17). -/
def execStr (k : Int) (s : State) : Result :=
  runOp (do
    match k with
    | 0 => do
      let v ← popa
      newlb v
    | 1 => do
      let v ← popa
      newsp v
    | 2 => do
      let v ← popa
      newhp v
    | _ => trap EILLINS) s

/-- TRP (R386, decision D16). -/
def execTrp (s : State) : Result :=
  runOp (do
    let n ← popw
    if 0 ≤ n ∧ n ≤ 255 then trap (BitVec.ofInt 8 n) else stop .undefined) s

/-- LSA (R398, decision D20): the operand is fetched and not used. -/
def execLsa (_k : Int) (s : State) : Result :=
  runOp (trap EILLINS) s

/-- An unassigned escaped opcode (R399). -/
def execIllegal (_op : Byte) (s : State) : Result :=
  runOp (stop (.aborted EILLINS)) s

end Sys2Proof.Machine
end

