-- ==== Sys2Proof/Machine/Monitor.lean ====
section
/-! DEFINITION. Monitor calls (49_monitor_calls.md R400 to R409) and signals (R406, 60_exceptions.md R421). The host's
answers are free values of Config; what a call pops, pushes and may write is the spec's. -/

namespace Sys2Proof.Machine

/-! ## The table of calls -/

/-- One line of the table of R403: code, name, number of parameters, which of e, R1, R0 it returns (R404), and which
parameter (counted from 0) points at the buffer the host may write (R408). -/
structure MonCall where
  code : Int
  name : String
  nparams : Nat
  hasE : Bool
  hasR1 : Bool
  hasR0 : Bool
  buffer : Option Nat
  deriving DecidableEq, Repr

/-- R403, R404, R408, first part. -/
def monCalls1 : List MonCall := [
  ⟨2, "Fork", 0, true, true, true, none⟩,
  ⟨3, "Read", 3, true, false, true, some 0⟩,
  ⟨4, "Write", 3, true, false, true, none⟩,
  ⟨5, "Open", 2, true, false, true, none⟩,
  ⟨6, "Close", 1, true, false, false, none⟩,
  ⟨7, "Wait", 0, true, true, true, none⟩,
  ⟨8, "Creat", 2, true, false, true, none⟩,
  ⟨9, "Link", 2, true, false, false, none⟩,
  ⟨10, "Unlink", 1, true, false, false, none⟩,
  ⟨12, "Chdir", 1, true, false, false, none⟩,
  ⟨13, "Time", 0, false, true, true, none⟩,
  ⟨14, "Mknod", 3, true, false, false, none⟩,
  ⟨15, "Chmod", 2, true, false, false, none⟩,
  ⟨16, "Chown", 3, true, false, false, none⟩,
  ⟨18, "Stat", 2, true, false, false, some 1⟩,
  ⟨19, "Lseek", 3, true, true, true, none⟩,
  ⟨20, "Getpid", 0, false, false, true, none⟩,
  ⟨21, "Mount", 3, true, false, false, none⟩,
  ⟨22, "Umount", 1, true, false, false, none⟩,
  ⟨23, "Setuid", 1, true, false, false, none⟩,
  ⟨24, "Getuid", 0, false, true, true, none⟩,
  ⟨25, "Stime", 2, true, false, false, none⟩,
  ⟨26, "Ptrace", 4, true, false, true, some 1⟩,
  ⟨27, "Alarm", 1, false, false, true, none⟩]

/-- R403, R404, R408, second part. -/
def monCalls2 : List MonCall := [
  ⟨28, "Fstat", 2, true, false, false, some 0⟩,
  ⟨29, "Pause", 0, false, false, false, none⟩,
  ⟨30, "Utime", 2, true, false, false, none⟩,
  ⟨33, "Access", 2, true, false, false, none⟩,
  ⟨34, "Nice", 1, false, false, false, none⟩,
  ⟨35, "Ftime", 1, false, false, false, some 0⟩,
  ⟨36, "Sync", 0, false, false, false, none⟩,
  ⟨37, "Kill", 2, true, false, false, none⟩,
  ⟨41, "Dup", 2, true, false, true, none⟩,
  ⟨42, "Pipe", 0, true, true, true, none⟩,
  ⟨43, "Times", 1, false, false, false, some 0⟩,
  ⟨44, "Profil", 4, false, false, false, none⟩,
  ⟨46, "Setgid", 1, true, false, false, none⟩,
  ⟨47, "Getgid", 0, false, true, true, none⟩,
  ⟨48, "Sigtrp", 2, true, false, true, none⟩,
  ⟨51, "Acct", 1, true, false, false, none⟩,
  ⟨52, "Phys", 3, true, false, false, none⟩,
  ⟨53, "Lock", 1, true, false, false, none⟩,
  ⟨54, "Ioctl", 3, true, false, false, some 2⟩,
  ⟨56, "Mpxcall", 2, true, false, false, some 1⟩,
  ⟨59, "Exece", 3, true, false, false, none⟩,
  ⟨60, "Umask", 1, true, false, false, none⟩,
  ⟨61, "Chroot", 1, true, false, false, none⟩]

/-- The call with a code, none for the codes of R407. -/
def monCall (code : Int) : Option MonCall := (monCalls1 ++ monCalls2).find? (fun c => c.code == code)

/-- Read, whose byte count is R0 (R408). -/
def monRead : Int := 3
/-- Write, whose buffer the host reads (R403, R408). -/
def monWrite : Int := 4
/-- Fork, whose R1 is 0 or 1 (R409). -/
def monFork : Int := 2
/-- Sigtrp (R405). -/
def monSigtrp : Int := 48
/-- Exece, which always fails: a legal host (R409, decision D11). -/
def monExece : Int := 59

/-! ## The table of signal actions (R35, R405) -/

/-- The action of a signal; none is the default. -/
def sigLookup : List (Word × SigAction) → Word → Option SigAction
  | [], _ => none
  | (g, a) :: m, x => if x = g then some a else sigLookup m x

/-- A pair in front of a table, or nothing for the default action. -/
def sigCons (x : Word) (a : Option SigAction) (m : List (Word × SigAction)) : List (Word × SigAction) :=
  match a with
  | none => m
  | some a => (x, a) :: m

/-- The table with the action of one signal changed. -/
def sigUpdate : List (Word × SigAction) → Word → Option SigAction → List (Word × SigAction)
  | [], x, a => sigCons x a []
  | (g, b) :: m, x, a =>
    if x.toNat < g.toNat then sigCons x a ((g, b) :: m)
    else if x = g then sigCons x a m
    else (g, b) :: sigUpdate m x a

/-- Signal numbers above `lo` and strictly rising. -/
def sigWfAbove : Option Nat → List (Word × SigAction) → Bool
  | _, [] => true
  | lo, (g, _) :: m =>
    (match lo with
      | none => true
      | some l => decide (l < g.toNat))
    && sigWfAbove (some g.toNat) m

/-- The canonical form of the table. -/
def sigWf (m : List (Word × SigAction)) : Bool := sigWfAbove none m

/-- An action as the `trapno` of Sigtrp (R405). -/
def sigNumber : Option SigAction → Int
  | none => -2
  | some .ignore => -3
  | some (.trap n) => n.toNat

/-- The action a `trapno` of Sigtrp asks for: none where it is no legal one (R405). -/
def sigRequest (trapno : Int) : Option (Option SigAction) :=
  if trapno = -2 then some none
  else if trapno = -3 then some (some .ignore)
  else if 0 ≤ trapno ∧ trapno ≤ 255 then some (some (.trap (BitVec.ofInt 8 trapno)))
  else none

/-! ## A call -/

/-- `for i = n downto 1 do p[i] <- popw()`: the parameters in stacking order (R401). -/
def popParams : Nat → Op (List Word)
  | 0 => pure []
  | n + 1 => do
    let w ← popw
    let ps ← popParams n
    pure (ps ++ [u16 w])

/-- A host error number (R404: "e <> 0"). -/
def errorNumber (w : Word) : Word := if w = 0#16 then 1#16 else w

/-- The byte count of Read and Write, an unsigned word (log entry 13). -/
def byteCount (ps : List Word) : Nat := (ps.getD 1 0#16).toNat

/-- What the host may store for a call: Read at most `nbytes` bytes, calls without a buffer nothing (R408). -/
def hostBytes (c : MonCall) (ps : List Word) (a : MonAnswer) : List Byte :=
  match c.buffer with
  | none => []
  | some _ => if c.code = monRead then a.bytes.take (byteCount ps) else a.bytes

/-- The address of the buffer of a call: the parameter the table names, for Write the first one (R403, R408). -/
def bufferAddress (c : MonCall) (ps : List Word) : Nat := (ps.getD (c.buffer.getD 0) 0#16).toNat

/-- The size of the buffer of a call: `nbytes` for Read and Write; where the spec gives no size, what the host stores
(R408; log entry 13). -/
def bufferSize (c : MonCall) (ps : List Word) (a : MonAnswer) : Nat :=
  if c.code = monRead ∨ c.code = monWrite then byteCount ps else (hostBytes c ps a).length

/-- Whether `n` bytes from an address are all admitted (R64, R408). -/
def State.admits (s : State) (a : Nat) : Nat → Bool
  | 0 => true
  | n + 1 => s.okadr a && State.admits s (a + 1) n

/-- Store the host's bytes at ascending addresses, at admitted addresses only (R408). -/
def State.storeAdmitted (s : State) : Nat → List Byte → Memory → Memory
  | _, [], m => m
  | a, b :: bs, m => State.storeAdmitted s (a + 1) bs (if s.okadr a then m.write a b else m)

/-- Whether a call succeeds: the host says so, the buffer is admitted (R408), and it is not Exece (R409). A call
without `e` has no way to fail. Whether what the host only reads must be admitted is left to the host, but for Write
(log entry 13). -/
def callSucceeds (s : State) (c : MonCall) (ps : List Word) (a : MonAnswer) : Bool :=
  !c.hasE || (a.ok && s.admits (bufferAddress c ps) (bufferSize c ps a) && decide (c.code ≠ monExece))

/-- The result words (R0, R1, e) of a call (R404, R408, R409). -/
def callResults (s : State) (c : MonCall) (ps : List Word) (a : MonAnswer) : Word × Word × Word :=
  if callSucceeds s c ps a then
    ((if c.code = monRead then u16 (hostBytes c ps a).length else a.r0),
     (if c.code = monFork then a.r1 &&& 1#16 else a.r1), 0#16)
  else (errorNumber a.err, a.r1, errorNumber a.err)

/-- The host's part of a call (R400): its bytes are stored, its result words are returned, its state changes. -/
def hostCall (c : MonCall) (ps : List Word) : Op (Word × Word × Word) := fun s =>
  let a := Config.monHost s.host c.code.toNat ps s.data
  .ok (callResults s c ps a)
    { s with
      data := s.storeAdmitted (bufferAddress c ps) (hostBytes c ps a) s.data
      host := a.host }

/-- Sigtrp (R405): the previous action is R0; a bad argument is reported through e. -/
def sigtrp (trapno signo : Word) : Op (Word × Word × Word) := fun s =>
  let a := Config.monHost s.host monSigtrp.toNat [trapno, signo] s.data
  match Config.isSignal signo, sigRequest (s16 trapno) with
  | true, some action =>
    .ok (u16 (sigNumber (sigLookup s.sigmap signo)), 0#16, 0#16)
      { s with sigmap := sigUpdate s.sigmap signo action, host := a.host }
  | _, _ => .ok (errorNumber a.err, 0#16, errorNumber a.err) { s with host := a.host }

/-- Push a result word that a call has (R401, R404). -/
def pushIf (present : Bool) (w : Word) : Op Unit := if present then push (adr w) else pure ()

/-- A call whose code is in the table (R401). -/
def monitorCall (c : MonCall) : Op Unit := do
  let ps ← popParams c.nparams
  let (r0, r1, e) ← if c.code = monSigtrp then sigtrp (ps.getD 0 0#16) (ps.getD 1 0#16) else hostCall c ps
  pushIf c.hasR0 r0
  pushIf c.hasR1 r1
  pushIf c.hasE e

/-- MON (R379, R401): an unknown code raises EMON with only the code popped (R407). -/
def execMon (s : State) : Result :=
  runOp (do
    let code ← popw
    match monCall code with
    | none => trap EMON
    | some c => monitorCall c) s

/-! ## Signals -/

/-- A signal is taken between two instructions (R406, R421). -/
def takeSignal (g : Word) : Op Unit := fun s =>
  match sigLookup s.sigmap g with
  | some (.trap n) => (do trap n; deliver : Op Unit) s
  | some .ignore => .ok () s
  | none =>
    match Config.signalDefault g with
    | some n => stop (.aborted n) s
    | none => .ok () s

end Sys2Proof.Machine
end

