-- ==== Sys2Proof/Machine/Pointer.lean ====
section
/-! DEFINITION. Groups 6 and 7: pointer arithmetic, increment, decrement, zero (43_pointer_incdec_convert.md R260 to R270). -/

namespace Sys2Proof.Machine

/-- ADI (R260). -/
def execAdi (k : Int) (s : State) : Result :=
  runOp (do
    let p ← popa
    push (p + k)) s

/-- PAD (R261). -/
def execPad (s : State) : Result :=
  runOp (do
    let t ← popw
    let p ← popa
    push (p + t)) s

/-- PSB (R262). -/
def execPsb (s : State) : Result :=
  runOp (do
    let (b, a) ← popPointers
    let z ← chkovf (b - a)
    push z) s

/-- INC (R263). -/
def execInc (s : State) : Result :=
  runOp (do
    let t0 ← popw
    let t ← argi t0
    let z ← chkovf (t + 1)
    push z) s

/-- INL (R264). -/
def execInl (k : Int) (s : State) : Result :=
  runOp (do
    let x ← argx k
    let s ← get
    let t0 ← memw (s.lbI + x)
    let t ← argi t0
    let z ← chkovf (t + 1)
    store (s.lbI + x) z) s

/-- INE (R265). -/
def execIne (k : Int) (s : State) : Result :=
  runOp (do
    let x ← argx k
    let t0 ← memw x
    let t ← argi t0
    let z ← chkovf (t + 1)
    store x z) s

/-- DEC (R266). -/
def execDec (s : State) : Result :=
  runOp (do
    let t0 ← popw
    let t ← argi t0
    let z ← chkovf (t - 1)
    push z) s

/-- DEL (R267). -/
def execDel (k : Int) (s : State) : Result :=
  runOp (do
    let x ← argx k
    let s ← get
    let t0 ← memw (s.lbI + x)
    let t ← argi t0
    let z ← chkovf (t - 1)
    store (s.lbI + x) z) s

/-- DEE (R268). -/
def execDee (k : Int) (s : State) : Result :=
  runOp (do
    let x ← argx k
    let t0 ← memw x
    let t ← argi t0
    let z ← chkovf (t - 1)
    store x z) s

/-- ZRL (R269). -/
def execZrl (k : Int) (s : State) : Result :=
  runOp (do
    let x ← argx k
    let s ← get
    store (s.lbI + x) 0) s

/-- ZRE (R270). -/
def execZre (k : Int) (s : State) : Result :=
  runOp (do
    let x ← argx k
    store x 0) s

end Sys2Proof.Machine
end

