-- ==== Sys2Proof/Machine/Store.lean ====
section
/-! DEFINITION. Group 2, store (41_store.md R220 to R229). -/

namespace Sys2Proof.Machine

/-- STL (R220). -/
def execStl (k : Int) (s : State) : Result :=
  runOp (do
    let x ← argx k
    let s ← get
    let w ← popw
    store (s.lbI + x) w) s

/-- STE (R221). -/
def execSte (k : Int) (s : State) : Result :=
  runOp (do
    let x ← argx k
    let w ← popw
    store x w) s

/-- STP (R222). -/
def execStp (k : Int) (s : State) : Result :=
  runOp (do
    let x ← argx k
    let s ← get
    let p ← mema (s.lbI + x)
    let w ← popw
    store p w) s

/-- SAI (R223): the pointer is updated before the object is stored. -/
def execSai (k : Int) (s : State) : Result :=
  runOp (do
    let y ← argy k
    let a ← popa
    let b ← mema a
    store a (b + y)
    popx y b) s

/-- STF (R224): the sum is not wrapped. -/
def execStf (k : Int) (s : State) : Result :=
  runOp (do
    let a ← popa
    let w ← popw
    store (a + k) w) s

/-- STI (R225). -/
def execSti (k : Int) (s : State) : Result :=
  runOp (do
    let y ← argy k
    let p ← popa
    popx y p) s

/-- STS (R226): the size is unsigned. -/
def execSts (s : State) : Result :=
  runOp (do
    let n ← popa
    let y ← argy n
    let p ← popa
    popx y p) s

/-- SDL (R227). -/
def execSdl (k : Int) (s : State) : Result :=
  runOp (do
    let x ← argx k
    let s ← get
    popWords 2 (s.lbI + x)) s

/-- SDE (R228). -/
def execSde (k : Int) (s : State) : Result :=
  runOp (do
    let x ← argx k
    popWords 2 x) s

/-- SDF (R229). -/
def execSdf (k : Int) (s : State) : Result :=
  runOp (do
    let a ← popa
    popWords 2 (a + k)) s

end Sys2Proof.Machine
end

