-- ==== Sys2Proof/Machine/Escape.lean ====
section
/-! DEFINITION. The escape byte (R103) executed on its own: the next byte is fetched and indexes the secondary table.
Every other fetch decodes the escape together with its second byte, so `step` comes here only when the program text
ends behind an escape byte; then the fetch of the second byte is the fatal EPC (R22). -/

namespace Sys2Proof.Machine

/-- The meaning of an instruction that has an escaped encoding (R111, R115); nothing else comes from the secondary
table. -/
def execSecondary (i : Instr) (s : State) : Result :=
  match i with
  | .aas => execAas s
  | .adi k => execAdi k s
  | .and k => execAnd k s
  | .ans => execAns s
  | .beg k => execBeg k s
  | .beq k => execBeq k s
  | .bes => execBes s
  | .bge k => execBge k s
  | .bgt k => execBgt k s
  | .ble k => execBle k s
  | .blm k => execBlm k s
  | .bls => execBls s
  | .blt k => execBlt k s
  | .bne k => execBne k s
  | .brb k => execBrb k s
  | .brf k => execBrf k s
  | .cal k => execCal k s
  | .cas => execCas s
  | .cdi => execCdi s
  | .cdf => execCdf s
  | .cfd => execCfd s
  | .cid => execCid s
  | .cmd => execCmd s
  | .cmp => execCmp s
  | .cms => execCms s
  | .cmu k => execCmu k s
  | .com k => execCom k s
  | .cos => execCos s
  | .dad => execDad s
  | .ddv => execDdv s
  | .dee k => execDee k s
  | .del k => execDel k s
  | .dmd => execDmd s
  | .dmu => execDmu s
  | .dsb => execDsb s
  | .dup k => execDup k s
  | .dus => execDus s
  | .exg => execExg s
  | .fef => execFef s
  | .fif => execFif s
  | .hlt => execHlt s
  | .inl k => execInl k s
  | .inn k => execInn k s
  | .ins => execIns s
  | .ior k => execIor k s
  | .ios => execIos s
  | .lai k => execLai k s
  | .lal k => execLal k s
  | .las => execLas s
  | .ldf k => execLdf k s
  | .ldl k => execLdl k s
  | .lex k => execLex k s
  | .lnc k => execLnc k s
  | .loi k => execLoi k s
  | .lol k => execLol k s
  | .lop k => execLop k s
  | .lor k => execLor k s
  | .los => execLos s
  | .lsa k => execLsa k s
  | .mon => execMon s
  | .mrk k => execMrk k s
  | .mrs => execMrs s
  | .mrx k => execMrx k s
  | .mxs => execMxs s
  | .nop => execNop s
  | .pad => execPad s
  | .psb => execPsb s
  | .rcs => execRcs s
  | .res => execRes s
  | .ret k => execRet k s
  | .rol => execRol s
  | .ror => execRor s
  | .rtt => execRtt s
  | .sai k => execSai k s
  | .sas => execSas s
  | .sde k => execSde k s
  | .sdf k => execSdf k s
  | .sdl k => execSdl k s
  | .ses => execSes s
  | .xset k => execSet k s
  | .shr => execShr s
  | .sig => execSig s
  | .stf k => execStf k s
  | .sti k => execSti k s
  | .stl k => execStl k s
  | .stp k => execStp k s
  | .str k => execStr k s
  | .sts => execSts s
  | .trp => execTrp s
  | .xor k => execXor k s
  | .xos => execXos s
  | .zeq k => execZeq k s
  | .zge k => execZge k s
  | .zgt k => execZgt k s
  | .zle k => execZle k s
  | .zlt k => execZlt k s
  | .zne k => execZne k s
  | .zre k => execZre k s
  | .zrl k => execZrl k s
  | .illegal op => execIllegal op s
  | _ => runOp (stop (.aborted EILLINS)) s

/-- (escape) (R103): PC is the address of the second byte. -/
def execEscape (s : State) : Result :=
  match decodeEscaped s.window with
  | .instr .escape _ => runOp (fetchFails s.window.length) s
  | .instr i length => execSecondary i (s.advance (length - 1))
  | .truncated => runOp (fetchFails s.window.length) s

end Sys2Proof.Machine
end

