-- ==== Sys2Proof/Machine/Dispatch.lean ====
section
/-! DEFINITION. One arm for each constructor of Instr: a direct call of its meaning. -/

namespace Sys2Proof.Machine

def exec (i : Instr) (s : State) : Host.Outcome State Fault Refusal :=
  match i with
  | .aar k => Sys2Proof.Machine.execAar k s
  | .aas => Sys2Proof.Machine.execAas s
  | .add => Sys2Proof.Machine.execAdd s
  | .adi k => Sys2Proof.Machine.execAdi k s
  | .and k => Sys2Proof.Machine.execAnd k s
  | .ans => Sys2Proof.Machine.execAns s
  | .beg k => Sys2Proof.Machine.execBeg k s
  | .beq k => Sys2Proof.Machine.execBeq k s
  | .bes => Sys2Proof.Machine.execBes s
  | .bge k => Sys2Proof.Machine.execBge k s
  | .bgt k => Sys2Proof.Machine.execBgt k s
  | .ble k => Sys2Proof.Machine.execBle k s
  | .blm k => Sys2Proof.Machine.execBlm k s
  | .bls => Sys2Proof.Machine.execBls s
  | .blt k => Sys2Proof.Machine.execBlt k s
  | .bne k => Sys2Proof.Machine.execBne k s
  | .brb k => Sys2Proof.Machine.execBrb k s
  | .brf k => Sys2Proof.Machine.execBrf k s
  | .cal k => Sys2Proof.Machine.execCal k s
  | .cas => Sys2Proof.Machine.execCas s
  | .cdi => Sys2Proof.Machine.execCdi s
  | .cdf => Sys2Proof.Machine.execCdf s
  | .cfd => Sys2Proof.Machine.execCfd s
  | .cfi => Sys2Proof.Machine.execCfi s
  | .cid => Sys2Proof.Machine.execCid s
  | .cif => Sys2Proof.Machine.execCif s
  | .cmd => Sys2Proof.Machine.execCmd s
  | .cmf => Sys2Proof.Machine.execCmf s
  | .cmi => Sys2Proof.Machine.execCmi s
  | .cmp => Sys2Proof.Machine.execCmp s
  | .cms => Sys2Proof.Machine.execCms s
  | .cmu k => Sys2Proof.Machine.execCmu k s
  | .com k => Sys2Proof.Machine.execCom k s
  | .cos => Sys2Proof.Machine.execCos s
  | .csa => Sys2Proof.Machine.execCsa s
  | .csb => Sys2Proof.Machine.execCsb s
  | .dad => Sys2Proof.Machine.execDad s
  | .ddv => Sys2Proof.Machine.execDdv s
  | .dec => Sys2Proof.Machine.execDec s
  | .dee k => Sys2Proof.Machine.execDee k s
  | .del k => Sys2Proof.Machine.execDel k s
  | .div => Sys2Proof.Machine.execDiv s
  | .dmd => Sys2Proof.Machine.execDmd s
  | .dmu => Sys2Proof.Machine.execDmu s
  | .dsb => Sys2Proof.Machine.execDsb s
  | .dup k => Sys2Proof.Machine.execDup k s
  | .dus => Sys2Proof.Machine.execDus s
  | .exg => Sys2Proof.Machine.execExg s
  | .fad => Sys2Proof.Machine.execFad s
  | .fdv => Sys2Proof.Machine.execFdv s
  | .fef => Sys2Proof.Machine.execFef s
  | .fif => Sys2Proof.Machine.execFif s
  | .fmu => Sys2Proof.Machine.execFmu s
  | .fsb => Sys2Proof.Machine.execFsb s
  | .hlt => Sys2Proof.Machine.execHlt s
  | .inc => Sys2Proof.Machine.execInc s
  | .ine k => Sys2Proof.Machine.execIne k s
  | .inl k => Sys2Proof.Machine.execInl k s
  | .inn k => Sys2Proof.Machine.execInn k s
  | .ins => Sys2Proof.Machine.execIns s
  | .ior k => Sys2Proof.Machine.execIor k s
  | .ios => Sys2Proof.Machine.execIos s
  | .lae k => Sys2Proof.Machine.execLae k s
  | .lai k => Sys2Proof.Machine.execLai k s
  | .lal k => Sys2Proof.Machine.execLal k s
  | .lar k => Sys2Proof.Machine.execLar k s
  | .las => Sys2Proof.Machine.execLas s
  | .lde k => Sys2Proof.Machine.execLde k s
  | .ldf k => Sys2Proof.Machine.execLdf k s
  | .ldl k => Sys2Proof.Machine.execLdl k s
  | .lex k => Sys2Proof.Machine.execLex k s
  | .lin k => Sys2Proof.Machine.execLin k s
  | .lnc k => Sys2Proof.Machine.execLnc k s
  | .lni => Sys2Proof.Machine.execLni s
  | .loc k => Sys2Proof.Machine.execLoc k s
  | .loe k => Sys2Proof.Machine.execLoe k s
  | .lof k => Sys2Proof.Machine.execLof k s
  | .loi k => Sys2Proof.Machine.execLoi k s
  | .lol k => Sys2Proof.Machine.execLol k s
  | .lop k => Sys2Proof.Machine.execLop k s
  | .lor k => Sys2Proof.Machine.execLor k s
  | .los => Sys2Proof.Machine.execLos s
  | .lsa k => Sys2Proof.Machine.execLsa k s
  | .mod => Sys2Proof.Machine.execMod s
  | .mon => Sys2Proof.Machine.execMon s
  | .mrk k => Sys2Proof.Machine.execMrk k s
  | .mrs => Sys2Proof.Machine.execMrs s
  | .mrx k => Sys2Proof.Machine.execMrx k s
  | .mul => Sys2Proof.Machine.execMul s
  | .mxs => Sys2Proof.Machine.execMxs s
  | .neg => Sys2Proof.Machine.execNeg s
  | .nop => Sys2Proof.Machine.execNop s
  | .pad => Sys2Proof.Machine.execPad s
  | .psb => Sys2Proof.Machine.execPsb s
  | .rck k => Sys2Proof.Machine.execRck k s
  | .rcs => Sys2Proof.Machine.execRcs s
  | .res => Sys2Proof.Machine.execRes s
  | .ret k => Sys2Proof.Machine.execRet k s
  | .rol => Sys2Proof.Machine.execRol s
  | .ror => Sys2Proof.Machine.execRor s
  | .rtt => Sys2Proof.Machine.execRtt s
  | .sai k => Sys2Proof.Machine.execSai k s
  | .sar k => Sys2Proof.Machine.execSar k s
  | .sas => Sys2Proof.Machine.execSas s
  | .sde k => Sys2Proof.Machine.execSde k s
  | .sdf k => Sys2Proof.Machine.execSdf k s
  | .sdl k => Sys2Proof.Machine.execSdl k s
  | .ses => Sys2Proof.Machine.execSes s
  | .xset k => Sys2Proof.Machine.execSet k s
  | .shl => Sys2Proof.Machine.execShl s
  | .shr => Sys2Proof.Machine.execShr s
  | .sig => Sys2Proof.Machine.execSig s
  | .ste k => Sys2Proof.Machine.execSte k s
  | .stf k => Sys2Proof.Machine.execStf k s
  | .sti k => Sys2Proof.Machine.execSti k s
  | .stl k => Sys2Proof.Machine.execStl k s
  | .stp k => Sys2Proof.Machine.execStp k s
  | .str k => Sys2Proof.Machine.execStr k s
  | .sts => Sys2Proof.Machine.execSts s
  | .sub => Sys2Proof.Machine.execSub s
  | .teq => Sys2Proof.Machine.execTeq s
  | .tge => Sys2Proof.Machine.execTge s
  | .tgt => Sys2Proof.Machine.execTgt s
  | .tle => Sys2Proof.Machine.execTle s
  | .tlt => Sys2Proof.Machine.execTlt s
  | .tne => Sys2Proof.Machine.execTne s
  | .trp => Sys2Proof.Machine.execTrp s
  | .xor k => Sys2Proof.Machine.execXor k s
  | .xos => Sys2Proof.Machine.execXos s
  | .zeq k => Sys2Proof.Machine.execZeq k s
  | .zge k => Sys2Proof.Machine.execZge k s
  | .zgt k => Sys2Proof.Machine.execZgt k s
  | .zle k => Sys2Proof.Machine.execZle k s
  | .zlt k => Sys2Proof.Machine.execZlt k s
  | .zne k => Sys2Proof.Machine.execZne k s
  | .zre k => Sys2Proof.Machine.execZre k s
  | .zrl k => Sys2Proof.Machine.execZrl k s
  | .escape => Sys2Proof.Machine.execEscape s
  | .illegal op => Sys2Proof.Machine.execIllegal op s

end Sys2Proof.Machine
end

