-- ==== Sys2Proof/Machine/Step.lean ====
section
/-! DEFINITION. One step of the machine: a signal, or one instruction (R102, R421), and the word the host asks for. -/

namespace Sys2Proof.Machine

/-- Fetch and execute the instruction at PC, then deliver a pending trap (R102). -/
def stepInstr (s : State) : Host.Outcome State Fault Refusal :=
  match decode s.normalmap s.window with
  | .instr i length => afterExec (exec i (s.advance length))
  | .truncated => runOp (fetchFails s.window.length) s

/-- One step. At an instruction boundary with nothing pending the host may present a signal (R406, R421); the input
list says whether it does. -/
def step (s : State) : Host.Outcome State Fault Refusal :=
  if s.status = .running then
    match s.pending, s.signals with
    | [], some g :: rest => runOp (takeSignal g) { s with signals := rest }
    | [], none :: rest => stepInstr { s with signals := rest }
    | _, _ => stepInstr s
  else .fault (.notRunning s.status)

/-- The state with an instruction of spec/opcode_table.json where the next step fetches it: its bytes at PC, the text
long enough to hold them, no signal, and the context the word is read in (R107, R121). -/
def State.withFetchWord (s : State) (nbits w : Nat) : State :=
  { s with
    code := s.code.writeBytes s.pc.toNat (tableBytes (nbits / 8) w)
    pd := if s.pd.toNat < s.pc.toNat + nbits / 8 then u16 (s.pcI + (nbits / 8 : Nat)) else s.pd
    normalmap := tableContext nbits w
    status := .running
    pending := []
    signals := [] }

end Sys2Proof.Machine
end

