-- ==== Sys2Proof/Machine/Loader.lean ====
section
/-! DEFINITION. The load file (31_assembly_and_load_format.md R170 to R178) and the start-up sequence that makes the
machine's start state of it (70_reset_and_hazards.md R451). -/

namespace Sys2Proof.Machine

/-- One block of the global data area as a load file describes it (R176). -/
inductive DataBlock where
  /-- Type 1: `n` words, not initialized (BSS, HOL). -/
  | uninitialized (n : Nat)
  /-- Type 2: initialized words. -/
  | words (ws : List Word)
  /-- Type 3: initialized pointers. -/
  | pointers (ws : List Word)
  /-- Type 4: initialized doubles, most significant word first. -/
  | doubles (ds : List (Word × Word))
  /-- Type 5: initialized floats, as character strings. -/
  | floats (strings : List (List Byte))
  deriving DecidableEq, Repr

/-- A load file (R170 to R177). -/
structure LoadFile where
  /-- The first half of the header (R171), which no rule reads. -/
  first : List Word
  /-- The first five words of the second half (R173). -/
  header : Header
  /-- The last three words of the second half, unused (R173). -/
  unused : List Word
  /-- The program text (R174). -/
  text : List Byte
  /-- The first data descriptor: the size of the ABS block in words (R175). -/
  abs : Word
  /-- The other data descriptors (R176). -/
  blocks : List DataBlock
  /-- The bytes of the procedure descriptors (R177). -/
  descriptors : List Byte
  deriving DecidableEq, Repr

/-! ## Reading (R170) -/

/-- `readword`: two bytes, low byte first (R62 c, R170). -/
def readWord : List Byte → Option (Word × List Byte)
  | lo :: hi :: bs => some (wordOf lo hi, bs)
  | _ => none

/-- `n` words. -/
def readWords : Nat → List Byte → Option (List Word × List Byte)
  | 0, bs => some ([], bs)
  | n + 1, bs =>
    match readWord bs with
    | none => none
    | some (w, bs) =>
      match readWords n bs with
      | none => none
      | some (ws, bs) => some (w :: ws, bs)

/-- `n` bytes. -/
def readBytes : Nat → List Byte → Option (List Byte × List Byte)
  | 0, bs => some ([], bs)
  | _ + 1, [] => none
  | n + 1, b :: bs =>
    match readBytes n bs with
    | none => none
    | some (cs, bs) => some (b :: cs, bs)

/-- `n` pairs of words, most significant first (R176). -/
def readPairs : Nat → List Byte → Option (List (Word × Word) × List Byte)
  | 0, bs => some ([], bs)
  | n + 1, bs =>
    match readWords 2 bs with
    | some ([hi, lo], bs) =>
      match readPairs n bs with
      | none => none
      | some (ds, bs) => some ((hi, lo) :: ds, bs)
    | _ => none

/-- A null-terminated string, without its null; the rest starts at a word boundary when the string did (R176): `odd`
says that an odd number of bytes has been read. -/
def readString : Bool → List Byte → Option (List Byte × List Byte)
  | _, [] => none
  | odd, b :: bs =>
    if b = 0#8 then
      (if odd then some ([], bs) else
        match bs with
        | [] => none
        | _ :: bs => some ([], bs))
    else
      match readString (!odd) bs with
      | none => none
      | some (cs, bs) => some (b :: cs, bs)

/-- `n` strings. -/
def readStrings : Nat → List Byte → Option (List (List Byte) × List Byte)
  | 0, bs => some ([], bs)
  | n + 1, bs =>
    match readString false bs with
    | none => none
    | some (c, bs) =>
      match readStrings n bs with
      | none => none
      | some (cs, bs) => some (c :: cs, bs)

/-- One data descriptor after the first (R176). -/
def readBlock (bs : List Byte) : Option (DataBlock × List Byte) :=
  match readWord bs with
  | none => none
  | some (w, bs) =>
    if w.toNat < 32768 then some (.uninitialized w.toNat, bs)
    else
      let n := w.toNat % 8192
      match w.toNat / 8192 % 4 with
      | 0 => (readWords n bs).map (fun (ws, bs) => (.words ws, bs))
      | 1 => (readWords n bs).map (fun (ws, bs) => (.pointers ws, bs))
      | 2 => (readPairs n bs).map (fun (ds, bs) => (.doubles ds, bs))
      | _ => (readStrings n bs).map (fun (cs, bs) => (.floats cs, bs))

/-- `n` data descriptors. -/
def readBlocks : Nat → List Byte → Option (List DataBlock × List Byte)
  | 0, bs => some ([], bs)
  | n + 1, bs =>
    match readBlock bs with
    | none => none
    | some (b, bs) =>
      match readBlocks n bs with
      | none => none
      | some (ds, bs) => some (b :: ds, bs)

/-- The load file in a byte string; none where the bytes end too early (log entry 17). -/
def readLoadFile (bs : List Byte) : Option LoadFile := do
  let (first, bs) ← readWords 8 bs
  let (second, bs) ← readWords 8 bs
  let header : Header := {
    ntext := second.getD 0 0#16, ndata := second.getD 1 0#16, nproc := second.getD 2 0#16
    entry := second.getD 3 0#16, nline := second.getD 4 0#16 }
  let (text, bs) ← readBytes header.ntext.toNat bs
  let (abs, bs) ← readWord bs
  let (blocks, bs) ← readBlocks (header.ndata.toNat - 1) bs
  let (descriptors, _) ← readBytes (Config.pdsiz * header.nproc.toNat) bs
  pure { first, header, unused := second.drop 5, text, abs, blocks, descriptors }

/-! ## Writing -/

/-- A word, low byte first (R170). -/
def wordBytes (w : Word) : List Byte := [lowByte w, highByte w]

/-- A string with its null and the pad byte of R176. -/
def stringBytes (c : List Byte) : List Byte := c ++ (if c.length % 2 = 0 then [0#8, 0#8] else [0#8])

/-- A data descriptor (R176). -/
def DataBlock.bytes : DataBlock → List Byte
  | .uninitialized n => wordBytes (BitVec.ofNat 16 n)
  | .words ws => wordBytes (BitVec.ofNat 16 (32768 + ws.length)) ++ ws.flatMap wordBytes
  | .pointers ws => wordBytes (BitVec.ofNat 16 (40960 + ws.length)) ++ ws.flatMap wordBytes
  | .doubles ds =>
    wordBytes (BitVec.ofNat 16 (49152 + ds.length)) ++ ds.flatMap (fun d => wordBytes d.1 ++ wordBytes d.2)
  | .floats cs => wordBytes (BitVec.ofNat 16 (57344 + cs.length)) ++ cs.flatMap stringBytes

/-- The words of the second half of the header that are kept (R173). -/
def Header.toWords (h : Header) : List Word := [h.ntext, h.ndata, h.nproc, h.entry, h.nline]

/-- The bytes of a load file (R170). -/
def LoadFile.bytes (f : LoadFile) : List Byte :=
  f.first.flatMap wordBytes ++ f.header.toWords.flatMap wordBytes ++ f.unused.flatMap wordBytes
    ++ f.text ++ wordBytes f.abs ++ f.blocks.flatMap DataBlock.bytes ++ f.descriptors

/-- A block a descriptor can hold (R176: the counts' widths; strings contain no null). -/
def DataBlock.wf : DataBlock → Bool
  | .uninitialized n => decide (n < 32768)
  | .words ws => decide (ws.length < 8192)
  | .pointers ws => decide (ws.length < 8192)
  | .doubles ds => decide (ds.length < 8192)
  | .floats cs => decide (cs.length < 8192) && cs.all (fun c => c.all (fun b => decide (b ≠ 0#8)))

/-- A load file whose header says how long its parts are (R173 to R177). -/
def LoadFile.wf (f : LoadFile) : Bool :=
  decide (f.first.length = 8) && decide (f.unused.length = 3)
    && decide (f.text.length = f.header.ntext.toNat) && decide (f.blocks.length = f.header.ndata.toNat - 1)
    && decide (f.descriptors.length = Config.pdsiz * f.header.nproc.toNat) && f.blocks.all DataBlock.wf

/-! ## The start-up sequence (R451) -/

/-- Push words. -/
def pushAll : List Word → Op Unit
  | [] => pure ()
  | w :: ws => do
    push (adr w)
    pushAll ws

/-- `pushd(readdouble)` for each pair (R451 step 8). -/
def pushDoubles : List (Word × Word) → Op Unit
  | [] => pure ()
  | (hi, lo) :: ds => do
    pushd (Config.dblFromLoad hi lo)
    pushDoubles ds

/-- `pushr(readreal)` for each string (R451 step 8). -/
def pushFloats : List (List Byte) → Op Unit
  | [] => pure ()
  | c :: cs => do
    pushr (Config.fltFromString c)
    pushFloats cs

/-- Lay out one block of global data (R451 step 8, R176). -/
def pushBlock : DataBlock → Op Unit
  | .uninitialized n => pushTimes Config.undef n
  | .words ws => pushAll ws
  | .pointers ws => pushAll ws
  | .doubles ds => pushDoubles ds
  | .floats cs => pushFloats cs

/-- The words a block is in the data area (R451 step 8, R244). -/
def DataBlock.contents : DataBlock → List Word
  | .uninitialized n => List.replicate n (u16 Config.undef)
  | .words ws => ws
  | .pointers ws => ws
  | .doubles ds =>
    ds.flatMap (fun d => [(Config.dblEncode (Config.dblFromLoad d.1 d.2)).1, (Config.dblEncode (Config.dblFromLoad d.1 d.2)).2])
  | .floats cs =>
    cs.flatMap (fun c => [(Config.fltEncode (Config.fltFromString c)).1, (Config.fltEncode (Config.fltFromString c)).2])

/-- Lay out blocks in order. -/
def pushBlocks : List DataBlock → Op Unit
  | [] => pure ()
  | b :: bs => do
    pushBlock b
    pushBlocks bs

/-- The machine before any global data is laid out (R451 steps 1 to 6, 9 and 13): the text and the descriptor table
are in the instruction space, LB = SP = 0, HP = maxdata + 1. -/
def LoadFile.blank (f : LoadFile) (p : Params) : State where
  pc := 0#16
  lb := 0#16
  sp := 0#16
  hp := u16 ((p.maxdata : Int) + 1)
  pd := f.header.ntext
  uerrorlb := 0#16
  uerrorproc := 0#16
  code := (Memory.writeBytes [] 0 f.text).writeBytes f.header.ntext.toNat f.descriptors
  data := []
  normalmap := true
  status := .running
  header := f.header
  pending := []
  saved := []
  sigmap := []
  params := p
  freeCount := 0
  host := 0
  signals := []

/-- The steps of R451 that can trap: the line number, the data blocks, the first mark block, LB and PC. -/
def LoadFile.startUp (f : LoadFile) : Op Unit := do
  lino 0
  pushTimes Config.undef (s16 f.abs - 1).toNat
  pushBlocks f.blocks
  let s ← get
  push s.maxdata
  push s.maxdata
  push s.maxcode
  newlb (s.spI + 8)
  let base ← procBase (adr f.header.entry)
  newpc base

/-- The words of the global data area (R451 steps 5 to 8, R66): the line number, the rest of the ABS block, the blocks. -/
def LoadFile.globals (f : LoadFile) : List Word :=
  0#16 :: (List.replicate (s16 f.abs - 1).toNat (u16 Config.undef) ++ f.blocks.flatMap DataBlock.contents)

/-- The conditions under which a load file is accepted (R451, decision D2). -/
def LoadFile.accepted (f : LoadFile) (p : Params) : Bool :=
  p.wf && f.wf && decide (f.header.entry.toNat < f.header.nproc.toNat)
    && decide (f.header.ntext.toNat + Config.pdsiz * f.header.nproc.toNat ≤ p.maxcode + 1)

/-- The start state of a program; none where the load file is refused. A start-up that stops gives the stopped
machine. -/
def LoadFile.start (f : LoadFile) (p : Params) : Option State :=
  if f.accepted p then
    match f.startUp.run (f.blank p) with
    | .ok _ s => some s
    | .error _ s => some s
  else none

/-- Load a file (R451). -/
def loadProgram (p : Params) (file : List Byte) : Option State :=
  match readLoadFile file with
  | some f => f.start p
  | none => none

end Sys2Proof.Machine
end

