-- ==== Sys2Proof/Machine/CompactAsm.lean ====
section
/-! DEFINITION. The statements of an assembly language program (31_assembly_and_load_format.md R140 to R153) and the
compact assembly language that holds them (R160 to R166): its reader and its writer. -/

namespace Sys2Proof.Machine

/-- The pseudoinstructions (R145 to R153), in the order of their codes (R160). -/
inductive Pseudo where
  | bss | con | endOf | eof | exc | exd | fwa | fwc | fwp | hol | ima | imc | letTo | mes | pro | rom
  deriving DecidableEq, Repr

/-- An operand as a program writes it (R142, R144, R162). -/
inductive AsmOperand where
  /-- A one-word constant; in a branch instruction, the label it goes to. -/
  | const (v : Int)
  /-- An instruction label in a CON or ROM list, written `*n`. -/
  | label (n : Nat)
  /-- A data label of the form `.n`. -/
  | data (n : Nat)
  /-- Any other data label or symbol. -/
  | symbol (s : List Byte)
  /-- A procedure, written `$name`. -/
  | proc (s : List Byte)
  /-- A string. -/
  | string (s : List Byte)
  /-- A real constant. -/
  | real (s : List Byte)
  /-- A double precision constant. -/
  | long (s : List Byte)
  deriving DecidableEq, Repr

/-- One thing the assembler accepts in neutral state (R160). -/
inductive AsmStatement where
  /-- An instruction label. -/
  | label (n : Nat)
  /-- A data label of the form `.n`. -/
  | data (n : Nat)
  /-- Any other data label. -/
  | symbol (s : List Byte)
  /-- A machine instruction: its NUMBER in the table of R112, and its operand. -/
  | instr (line : Nat) (operand : Option AsmOperand)
  /-- A pseudoinstruction with its operands. -/
  | pseudo (p : Pseudo) (operands : List AsmOperand)
  deriving DecidableEq, Repr

/-- The codes of the pseudoinstructions (R160, R163). -/
def Pseudo.code : Pseudo → Nat
  | .bss => 150 | .con => 151 | .endOf => 152 | .eof => 153 | .exc => 154 | .exd => 155 | .fwa => 156 | .fwc => 157
  | .fwp => 158 | .hol => 159 | .ima => 160 | .imc => 161 | .letTo => 162 | .mes => 163 | .pro => 164 | .rom => 165

/-- Every pseudoinstruction. -/
def Pseudo.all : List Pseudo :=
  [.bss, .con, .endOf, .eof, .exc, .exd, .fwa, .fwc, .fwp, .hol, .ima, .imc, .letTo, .mes, .pro, .rom]

/-- The pseudoinstruction with a code. -/
def Pseudo.ofCode (n : Nat) : Option Pseudo := Pseudo.all.find? (fun p => p.code == n)

/-- How many operands a pseudoinstruction has (R145 to R153, R164): none for the lists of group 4. -/
def Pseudo.arity : Pseudo → Option Nat
  | .endOf | .eof => some 0
  | .bss | .hol | .exd | .fwa | .fwc | .fwp | .ima | .imc => some 1
  | .exc | .letTo => some 2
  | .pro => some 3
  | .con | .mes | .rom => none

/-- Whether a machine instruction has an operand: flag `z` says not (R105); none for a NUMBER that is no machine
instruction (the placeholders of R113, and the numbers the table does not use). -/
def hasOperand (line : Nat) : Option Bool := (table.find? (fun r => r.number == line)).map (fun r => !r.has .z)

/-- Whether a machine instruction is a branch, whose operand is the number of a label (flag `b`: R154 a, R162). -/
def isBranch (line : Nat) : Bool := table.any (fun r => r.number == line && r.has .b)

/-! ## Reading (R160 to R162, R164, R165) -/

/-- The first bytes of a string's text and what follows it; the length field has been read. -/
def takeAscii : Nat → List Byte → Option (List Byte × List Byte)
  | 0, bs => some ([], bs)
  | _ + 1, [] => none
  | n + 1, b :: bs =>
    match takeAscii n bs with
    | some (s, rest) => some (b :: s, rest)
    | none => none

/-- An `<ASCII string>`: a length field, then the bytes (R162). -/
def readAscii (bs : List Byte) : Option (List Byte × List Byte) :=
  match bs with
  | [] => none
  | n :: rest =>
    if n.toNat < 255 then takeAscii n.toNat rest
    else
      match rest with
      | lo :: hi :: rest => takeAscii (wordOf lo hi).toNat rest
      | _ => none

/-- A string with what is made of it. -/
def readAsciiAs {α : Type} (f : List Byte → α) (bs : List Byte) : Option (α × List Byte) :=
  match readAscii bs with
  | some (s, rest) => some (f s, rest)
  | none => none

/-- One operand (R161, R162). The 16-bit constant is signed (log entry 21), but for the labels of branches. -/
def readOperand (bs : List Byte) : Option (AsmOperand × List Byte) :=
  match bs with
  | [] => none
  | op :: rest =>
    if op.toNat < 240 then some (.const op.toNat, rest)
    else
      match op.toNat, rest with
      | 240, b :: rest => some (.label b.toNat, rest)
      | 241, lo :: hi :: rest => some (.label (wordOf lo hi).toNat, rest)
      | 242, b :: rest => some (.data b.toNat, rest)
      | 243, lo :: hi :: rest => some (.data (wordOf lo hi).toNat, rest)
      | 244, rest => readAsciiAs .symbol rest
      | 245, rest => readAsciiAs .proc rest
      | 246, rest => readAsciiAs .string rest
      | 247, rest => readAsciiAs .real rest
      | 248, b :: rest => some (.const b.toNat, rest)
      | 249, b :: rest => some (.const (-(b.toNat : Int)), rest)
      | 250, lo :: hi :: rest => some (.const (s16 (wordOf lo hi)), rest)
      | 251, rest => readAsciiAs .long rest
      | _, _ => none

/-- The operand of a machine instruction: a plain constant of a branch is a label, and a label is not negative
(R162). -/
def readInstrOperand (line : Nat) (bs : List Byte) : Option (AsmOperand × List Byte) :=
  match isBranch line, bs with
  | true, op :: lo :: hi :: rest => if op = 250#8 then some (.const (wordOf lo hi).toNat, rest) else readOperand bs
  | _, bs => readOperand bs

/-- A known number of operands. -/
def readOperands : Nat → List Byte → Option (List AsmOperand × List Byte)
  | 0, bs => some ([], bs)
  | n + 1, bs =>
    match readOperand bs with
    | none => none
    | some (o, rest) =>
      match readOperands n rest with
      | some (os, rest) => some (o :: os, rest)
      | none => none

/-- Operands up to the delimiter 255 (R164); `fuel` bounds their number. -/
def readList : Nat → List Byte → Option (List AsmOperand × List Byte)
  | 0, _ => none
  | fuel + 1, bs =>
    match bs with
    | [] => none
    | op :: rest =>
      if op.toNat = 255 then some ([], rest)
      else
        match readOperand (op :: rest) with
        | none => none
        | some (o, rest) =>
          match readList fuel rest with
          | some (os, rest) => some (o :: os, rest)
          | none => none

/-- One statement in neutral state (R160). -/
def readStatement (bs : List Byte) : Option (AsmStatement × List Byte) :=
  match bs with
  | [] => none
  | op :: rest =>
    if op.toNat < 140 then
      match hasOperand op.toNat with
      | none => none
      | some false => some (.instr op.toNat none, rest)
      | some true =>
        match readInstrOperand op.toNat rest with
        | some (o, rest) => some (.instr op.toNat (some o), rest)
        | none => none
    else if op.toNat < 180 then
      match Pseudo.ofCode op.toNat with
      | none => none
      | some p =>
        match p.arity with
        | some n =>
          match readOperands n rest with
          | some (os, rest) => some (.pseudo p os, rest)
          | none => none
        | none =>
          match readList (rest.length + 1) rest with
          | some (os, rest) => some (.pseudo p os, rest)
          | none => none
    else if op.toNat < 240 then some (.label (op.toNat - 180), rest)
    else
      match op.toNat, rest with
      | 240, b :: rest => some (.label b.toNat, rest)
      | 241, lo :: hi :: rest => some (.label (wordOf lo hi).toNat, rest)
      | 242, b :: rest => some (.data b.toNat, rest)
      | 243, lo :: hi :: rest => some (.data (wordOf lo hi).toNat, rest)
      | 244, rest => readAsciiAs .symbol rest
      | _, _ => none

/-- Statements up to EOF, which is the very last one: a byte after it is refused (R143); `fuel` bounds their number. -/
def readStatements : Nat → List Byte → Option (List AsmStatement)
  | 0, _ => none
  | fuel + 1, bs =>
    match readStatement bs with
    | none => none
    | some (s, rest) =>
      if s = .pseudo .eof [] then (if rest = [] then some [s] else none)
      else
        match readStatements fuel rest with
        | some ss => some (s :: ss)
        | none => none

/-- A compact assembly file: the magic word (R165), then the statements. -/
def readCompact (bs : List Byte) : Option (List AsmStatement) :=
  match bs with
  | lo :: hi :: rest => if lo = 172#8 ∧ hi = 0#8 then readStatements rest.length rest else none
  | _ => none

/-! ## Writing -/

/-- An `<ASCII string>` (R162). -/
def writeAscii (s : List Byte) : List Byte :=
  if s.length < 255 then BitVec.ofNat 8 s.length :: s else 255#8 :: (wordBytes (BitVec.ofNat 16 s.length) ++ s)

/-- A label in the common table (R162): one byte where it fits, else two. -/
def writeNumber (short : Byte) (long : Byte) (n : Nat) : List Byte :=
  if n < 256 then [short, BitVec.ofNat 8 n] else long :: wordBytes (BitVec.ofNat 16 n)

/-- An operand, in the shortest form R162 has for it. -/
def AsmOperand.bytes : AsmOperand → List Byte
  | .const v =>
    if 0 ≤ v ∧ v < 240 then [BitVec.ofInt 8 v]
    else if 0 ≤ v ∧ v < 256 then [248#8, BitVec.ofInt 8 v]
    else if -256 < v ∧ v < 0 then [249#8, BitVec.ofInt 8 (-v)]
    else 250#8 :: wordBytes (u16 v)
  | .label n => writeNumber 240#8 241#8 n
  | .data n => writeNumber 242#8 243#8 n
  | .symbol s => 244#8 :: writeAscii s
  | .proc s => 245#8 :: writeAscii s
  | .string s => 246#8 :: writeAscii s
  | .real s => 247#8 :: writeAscii s
  | .long s => 251#8 :: writeAscii s

/-- Operands one after another. -/
def operandBytes (os : List AsmOperand) : List Byte := (os.map AsmOperand.bytes).flatten

/-- A statement (R160, R164): a list of group 4 ends with the delimiter. -/
def AsmStatement.bytes : AsmStatement → List Byte
  | .label n => if n < 60 then [BitVec.ofNat 8 (180 + n)] else writeNumber 240#8 241#8 n
  | .data n => writeNumber 242#8 243#8 n
  | .symbol s => 244#8 :: writeAscii s
  | .instr line none => [BitVec.ofNat 8 line]
  | .instr line (some o) => BitVec.ofNat 8 line :: o.bytes
  | .pseudo p os =>
    BitVec.ofNat 8 p.code :: (operandBytes os ++ (if p.arity.isNone then [255#8] else []))

/-- A compact assembly file (R165). -/
def writeCompact (ss : List AsmStatement) : List Byte := 172#8 :: 0#8 :: (ss.map AsmStatement.bytes).flatten

/-- The numbers and lengths an operand may have. -/
def AsmOperand.wf : AsmOperand → Bool
  | .const v => decide (-32768 ≤ v) && decide (v ≤ 32767)
  | .label n => decide (n < 65536)
  | .data n => decide (n < 65536)
  | .symbol s | .proc s | .string s | .real s | .long s => decide (s.length < 65536)

/-- A statement the format can hold. -/
def AsmStatement.wf : AsmStatement → Bool
  | .label n => decide (n < 65536)
  | .data n => decide (n < 65536)
  | .symbol s => decide (s.length < 65536)
  | .instr line o =>
    (hasOperand line == some o.isSome)
      && (match o with
        | none => true
        | some (.const v) =>
          if isBranch line then decide (0 ≤ v) && decide (v < 65536) else decide (-32768 ≤ v) && decide (v ≤ 32767)
        | some o => o.wf)
  | .pseudo p os => (match p.arity with | none => true | some n => os.length == n) && os.all AsmOperand.wf

/-- One EOF, which is the very last statement (R143). -/
def endsInEof (ss : List AsmStatement) : Bool :=
  (ss.getLast? == some (.pseudo .eof [])) && !(ss.dropLast.contains (.pseudo .eof []))

/-- A module the format can hold. -/
def moduleWf (ss : List AsmStatement) : Bool := ss.all AsmStatement.wf && endsInEof ss

end Sys2Proof.Machine
end

