-- ==== Sys2Proof/Machine/Assembler.lean ====
section
/-! DEFINITION. What the assembler makes of a module (31_assembly_and_load_format.md R143 to R154, 30_encoding.md R107
and R117): from statements to a load file. Log entry 22 names what the source leaves to the assembler. -/

namespace Sys2Proof.Machine

/-- What the assembler is told beside the module: the size of the ABS block in words (R7 `ABSSIZE`), the name of the
procedure to start with, and the header words no statement gives (R171, R172). -/
structure AsmOptions where
  absWords : Nat
  entry : List Byte
  flags : Word
  version : Word
  deriving DecidableEq, Repr

/-- The name of a data label or of an assembly-time constant. -/
inductive SymbolName where
  | num (n : Nat)
  | name (s : List Byte)
  deriving DecidableEq, Repr

/-- The symbol an operand names. -/
def AsmOperand.symbolName : AsmOperand → Option SymbolName
  | .data n => some (.num n)
  | .symbol s => some (.name s)
  | _ => none

/-- The value beside a key of a list of pairs. -/
def lookupPair {α β : Type} [DecidableEq α] (k : α) : List (α × β) → Option β
  | [] => none
  | (a, b) :: m => if k = a then some b else lookupPair k m

/-- No key of a list of pairs occurs twice. -/
def keysDiffer {α β : Type} [DecidableEq α] : List (α × β) → Bool
  | [] => true
  | (a, _) :: m => (lookupPair a m).isNone && keysDiffer m

/-- The place of a name in a list. -/
def indexIn {α : Type} [DecidableEq α] (k : α) : List α → Option Nat
  | [] => none
  | a :: m => if k = a then some 0 else (indexIn k m).map (· + 1)

/-! ## EXC (R152) -/

/-- A data label stands on the line of the pseudoinstruction it labels (R140). -/
def AsmStatement.isDataLabel : AsmStatement → Bool
  | .data _ | .symbol _ => true
  | _ => false

/-- The last lines of what has been read, the last statement first; the data labels of a line go with it. -/
def takeLines : Nat → List AsmStatement → Option (List AsmStatement × List AsmStatement)
  | 0, ss => some ([], ss)
  | n + 1, ss =>
    match ss with
    | [] => none
    | s :: ss =>
      match takeLines n (ss.dropWhile AsmStatement.isDataLabel) with
      | some (block, rest) => some (s :: (ss.takeWhile AsmStatement.isDataLabel ++ block), rest)
      | none => none

/-- Carry out the EXC statements (R152): `done` is what has been read, the last statement first. An EXC is taken out when
it has been carried out, so it is no line of a later one's blocks (log entry 22). -/
def exchangeBlocks : List AsmStatement → List AsmStatement → Option (List AsmStatement)
  | [], done => some done.reverse
  | s :: ss, done =>
    match s with
    | .pseudo .exc [.const a, .const b] =>
      if 0 ≤ a ∧ 0 ≤ b then
        match takeLines b.toNat done with
        | none => none
        | some (second, rest) =>
          match takeLines a.toNat rest with
          | none => none
          | some (first, rest) => exchangeBlocks ss (first ++ second ++ rest)
      else none
    | s => exchangeBlocks ss (s :: done)

/-! ## Scanning a module -/

/-- A piece of the global data area, its values not yet resolved. -/
inductive DataItem where
  | space (words : Nat)
  /-- The end of a module. -/
  | moduleEnd
  /-- A value of a CON or ROM list, and the procedure it stands in or before (R143). -/
  | value (o : AsmOperand) (procedure : Option Nat)
  deriving DecidableEq, Repr

/-- The words a value takes (R147; doubles and reals are two words, R7). -/
def AsmOperand.words : AsmOperand → Nat
  | .long _ | .real _ => 2
  | .string s => (s.length + 1) / 2
  | _ => 1

/-- A line of code, its operand not yet resolved. -/
inductive CodeItem where
  | start (procedure : Nat) (args : Int)
  | label (procedure n : Nat)
  /-- An instruction, with the base of the HOL block in force (R150). -/
  | instr (procedure line : Nat) (operand : Option AsmOperand) (hol : Int)
  deriving DecidableEq, Repr

/-- What has been scanned of a module. -/
structure AsmScan where
  /-- Procedure names in the order of their first mention, which numbers them (log entry 22). -/
  procedures : List (List Byte)
  /-- The procedure being assembled. -/
  current : Option Nat
  /-- Data labels that wait for their pseudoinstruction. -/
  waiting : List SymbolName
  /-- The size of the global data area so far, in words. -/
  size : Nat
  /-- Byte addresses of data labels. -/
  labels : List (SymbolName × Int)
  /-- The base of the current HOL block, 0 before the first one (R150). -/
  hol : Int
  /-- Assembly-time assignments (LET: R152). -/
  lets : List (SymbolName × AsmOperand)
  /-- The global data area after the ABS block. -/
  data : List DataItem
  /-- The code. -/
  code : List CodeItem
  /-- MES 4 (R153). -/
  nline : Int
  /-- MES 5 (R153). -/
  reals : Bool
  deriving DecidableEq, Repr

/-- Before the first statement. -/
def AsmScan.empty (absWords : Nat) : AsmScan where
  procedures := []
  current := none
  waiting := []
  size := absWords
  labels := []
  hol := 0
  lets := []
  data := []
  code := []
  nline := 0
  reals := false

/-- A procedure name is mentioned. -/
def AsmScan.mention (c : AsmScan) (o : AsmOperand) : AsmScan :=
  match o with
  | .proc s => if s ∈ c.procedures then c else { c with procedures := c.procedures ++ [s] }
  | _ => c

/-- The waiting labels get the address of the block that starts here. -/
def AsmScan.place (c : AsmScan) : AsmScan :=
  { c with labels := c.labels ++ c.waiting.map (fun n => (n, 2 * (c.size : Int))), waiting := [] }

/-- Data follows. -/
def AsmScan.addData (c : AsmScan) (items : List DataItem) (words : Nat) : AsmScan :=
  { c with data := c.data ++ items, size := c.size + words }

/-- The values since the last procedure, the last one first, belong to the procedure that starts now (R143). -/
def claimValues (k : Nat) : List DataItem → List DataItem
  | [] => []
  | .moduleEnd :: ds => .moduleEnd :: ds
  | .value o none :: ds => .value o (some k) :: claimValues k ds
  | d :: ds => d :: claimValues k ds

/-- The values of a CON or ROM list, at least one (R147, R148). -/
def AsmScan.values (c : AsmScan) (os : List AsmOperand) : Option AsmScan :=
  if os = [] then none
  else
    some ((os.foldl AsmScan.mention c).place.addData (os.map (.value · c.current)) (os.map (·.words)).sum)

/-- A pseudoinstruction (R145 to R153). NLINE is the greatest number of lines a MES 4 of any module gives, and EXD,
FWA and FWC do not ask that the module defines their symbol; a pseudoinstruction may also stand between the last END and
EOF (log entry 22). -/
def AsmScan.pseudo (c : AsmScan) (p : Pseudo) (os : List AsmOperand) : Option AsmScan :=
  match p, os with
  | .bss, [.const n] =>
    if 0 ≤ n ∧ n % 2 = 0 then some (c.place.addData [.space (n / 2).toNat] (n / 2).toNat) else none
  | .hol, [.const n] =>
    if 0 ≤ n ∧ n % 2 = 0 ∧ c.waiting = [] then
      some { c.addData [.space (n / 2).toNat] (n / 2).toNat with hol := 2 * (c.size : Int) }
    else none
  | .con, os => c.values os
  | .rom, os => c.values os
  | .pro, [.proc s, .const args, .const exported] =>
    if c.current = none ∧ c.waiting = [] ∧ 0 ≤ args ∧ args < 65536 ∧ (exported = 0 ∨ exported = 1) then
      let c := c.mention (.proc s)
      match indexIn s c.procedures with
      | some k =>
        some { c with
          current := some k, code := c.code ++ [.start k args], data := (claimValues k c.data.reverse).reverse }
      | none => none
    else none
  | .endOf, [] => if c.waiting = [] ∧ c.current ≠ none then some { c with current := none } else none
  | .eof, [] =>
    if c.waiting = [] then some { c.addData [.moduleEnd] 0 with current := none, hol := 0 } else none
  | .letTo, [o, v] =>
    match o.symbolName with
    | some n => if c.waiting = [] then some { c with lets := c.lets ++ [(n, v)] } else none
    | none => none
  | .mes, .const 0 :: _ => none
  | .mes, [.const 4, .const n] => if c.waiting = [] then some { c with nline := max c.nline n } else none
  | .mes, .const 5 :: _ => if c.waiting = [] then some { c with reals := true } else none
  | .mes, .const _ :: _ => if c.waiting = [] then some c else none
  | .fwp, [.proc s] => if c.waiting = [] then some (c.mention (.proc s)) else none
  | .fwc, [o] => if c.waiting = [] ∧ o.symbolName ≠ none then some c else none
  | .imc, [o] => if c.waiting = [] ∧ o.symbolName ≠ none then some c else none
  | .exd, [o] => if c.waiting = [] ∧ o.symbolName ≠ none then some c else none
  | .ima, [o] => if c.waiting = [] ∧ o.symbolName ≠ none then some c else none
  | .fwa, [o] => if c.waiting = [] ∧ o.symbolName ≠ none then some c else none
  | _, _ => none

/-- One statement (R143). -/
def AsmScan.statement (c : AsmScan) (s : AsmStatement) : Option AsmScan :=
  match s with
  | .data n => some { c with waiting := c.waiting ++ [.num n] }
  | .symbol n => some { c with waiting := c.waiting ++ [.name n] }
  | .label n =>
    match c.current, c.waiting with
    | some k, [] => some { c with code := c.code ++ [.label k n] }
    | _, _ => none
  | .instr line o =>
    match c.current, c.waiting with
    | some k, [] =>
      let c := match o with
        | some o => c.mention o
        | none => c
      some { c with code := c.code ++ [.instr k line o c.hol] }
    | _, _ => none
  | .pseudo p os => c.pseudo p os

/-- All statements in order. -/
def AsmScan.statements : List AsmStatement → AsmScan → Option AsmScan
  | [], c => some c
  | s :: ss, c =>
    match c.statement s with
    | some c => AsmScan.statements ss c
    | none => none

/-! ## Values of operands (R142, R150, R152, R154) -/

/-- What the symbols stand for: a value, and whether it is an address. -/
abbrev Symbols := List (SymbolName × Int × Bool)

/-- One LET: its symbol has no value yet, and what it is given has one (log entry 22). -/
def assign (env : Symbols) (n : SymbolName) (o : AsmOperand) : Option Symbols :=
  if (lookupPair n env).isSome then none
  else
    match o with
    | .const v => some (env ++ [(n, v, false)])
    | o => (o.symbolName.bind (lookupPair · env)).map (fun v => env ++ [(n, v)])

/-- The LET statements in order. -/
def assignAll : Symbols → List (SymbolName × AsmOperand) → Option Symbols
  | env, [] => some env
  | env, (n, o) :: ls =>
    match assign env n o with
    | some env => assignAll env ls
    | none => none

/-- The values of symbols: the addresses of data labels, then what LET assigns. -/
def AsmScan.symbols (c : AsmScan) : Option Symbols :=
  if keysDiffer c.labels then assignAll (c.labels.map (fun l => (l.1, l.2, true))) c.lets else none

/-- The operand of an instruction that is no branch: a number addresses the current HOL block where the instruction
addresses global data (flag `e`, R150), a procedure name is its number (flag `c`), a symbol its value (log entry
22). -/
def AsmScan.operandValue (c : AsmScan) (env : Symbols) (r : Row) (hol : Int) (o : AsmOperand) : Option Int :=
  match o with
  | .const v => some (if r.has .e then v + hol else v)
  | .proc s => (indexIn s c.procedures).map (fun k => (k : Int))
  | o => (o.symbolName.bind (fun n => lookupPair n env)).map (·.1)

/-- Code whose instructions are known but for the distances of branches. -/
inductive Code where
  | start (procedure : Nat) (args : Int)
  | label (procedure n : Nat)
  /-- An instruction, to be encoded for the normal context or the alternate one. -/
  | fixed (i : Instr) (normal : Bool)
  /-- A branch to a label of its procedure. -/
  | branch (r : Row) (procedure n : Nat)

/-- The code of one line (R154). MRX and MXS are no mnemonics of a program (flag `a`: R154 e, R353, R354), and a branch
names its label without asterisk (R142). -/
def AsmScan.codeOf (c : AsmScan) (env : Symbols) (item : CodeItem) : Option Code :=
  match item with
  | .start k args => some (.start k args)
  | .label k n => some (.label k n)
  | .instr k line o hol =>
    match table.find? (fun r => r.number == line) with
    | none => none
    | some r =>
      if r.has .a then none else
      match o with
      | none => if r.has .z then some (.fixed (r.build 0) true) else none
      | some o =>
        if r.has .z then none
        else if r.has .b then
          match o with
          | .const n => if 0 ≤ n then some (.branch r k n.toNat) else none
          | _ => none
        else
          match c.operandValue env r hol o with
          | none => none
          | some v =>
            let i := r.build (r.unscale v)
            if i.operand = v ∧ i.wf = true then some (.fixed i true) else none

/-- All of a list, none where one of them is missing. -/
def allSome {α : Type} : List (Option α) → Option (List α)
  | [] => some []
  | none :: _ => none
  | some a :: m => (allSome m).map (a :: ·)

/-! ## The alternate context (R107, R461) -/

/-- Instructions that may stand between MRX and its call: encoded below the opcodes that mean calls, and leaving
neither the sequence nor the context. -/
def standsInAlternate (i : Instr) : Bool :=
  decide (((encode i).headD 0).toNat < Config.cutoff)
    && (match i with
      | .mrk _ | .mrs | .mrx _ | .mxs | .cal _ | .cas | .ret _ | .res | .rtt | .csa | .csb | .hlt => false
      | _ => true)

/-- The next call can be made in the alternate context (R461 a to d), as its one-byte form: a call of a procedure above
121 keeps its MRK (log entry 22). -/
def callAhead : List Code → Bool
  | .fixed (.cal k) _ :: _ => decide (0 ≤ k) && decide (k < 256 - (Config.cutoff : Int))
  | .fixed i _ :: rest => standsInAlternate i && callAhead rest
  | _ => false

/-- Replace MRK by MRX, and the call it belongs to by its one-byte form, where that is allowed; MRS stays (log entry
22). -/
def useAlternate : Bool → List Code → List Code
  | _, [] => []
  | false, .fixed (.mrk n) b :: rest =>
    if callAhead rest then .fixed (.mrx n) true :: useAlternate true rest else .fixed (.mrk n) b :: useAlternate false rest
  | true, .fixed (.cal k) _ :: rest => .fixed (.cal k) false :: useAlternate false rest
  | b, c :: rest => c :: useAlternate b rest

/-! ## Addresses and distances (R154 a, f) -/

/-- The shortest encoding in a context (R117). -/
def shortest (i : Instr) (normal : Bool) : List Byte := (encodings normal i).headD []

/-- The length of code while every branch is a shortie. -/
def Code.firstLength : Code → Nat
  | .start _ _ | .label _ _ => 0
  | .fixed i normal => (shortest i normal).length
  | .branch _ _ _ => 2

/-- The addresses of the labels, the code starting at `a`. -/
def labelAddresses : Nat → List (Code × Nat) → List ((Nat × Nat) × Nat)
  | _, [] => []
  | a, (.label k n, _) :: cs => ((k, n), a) :: labelAddresses a cs
  | a, (_, length) :: cs => labelAddresses (a + length) cs

/-- The distance of a branch that ends at address `a`: BRB counts backward, every other one forward. -/
def distance (r : Row) (a target : Nat) : Int :=
  if r.number = Instr.line (.brb 0) then (a : Int) - target else (target : Int) - a

/-- One round: a branch whose distance does not fit a shortie becomes long. -/
def lengthen (labels : List ((Nat × Nat) × Nat)) : Nat → List (Code × Nat) → List (Code × Nat)
  | _, [] => []
  | a, (c, length) :: cs =>
    match c with
    | .branch r k n =>
      match lookupPair (k, n) labels with
      | some t =>
        (c, if 255 < distance r (a + length) t then 4 else length) :: lengthen labels (a + length) cs
      | none => (c, length) :: lengthen labels (a + length) cs
    | c => (c, length) :: lengthen labels (a + length) cs

/-- Rounds until every branch has its length: each but the last makes a branch longer. -/
def settle : Nat → List (Code × Nat) → List (Code × Nat)
  | 0, cs => cs
  | n + 1, cs =>
    let next := lengthen (labelAddresses 0 cs) 0 cs
    if next.map (·.2) = cs.map (·.2) then cs else settle n next

/-- The bytes of the code, the code starting at `a`: a branch must go its mnemonic's way (log entry 22). -/
def codeBytes (labels : List ((Nat × Nat) × Nat)) : Nat → List (Code × Nat) → Option (List Byte)
  | _, [] => some []
  | a, (c, length) :: cs =>
    match codeBytes labels (a + length) cs with
    | none => none
    | some rest =>
      match c with
      | .start _ _ | .label _ _ => some rest
      | .fixed i normal => some (shortest i normal ++ rest)
      | .branch r k n =>
        match lookupPair (k, n) labels with
        | none => none
        | some t =>
          if 0 ≤ distance r (a + length) t ∧ distance r (a + length) t < 32768 then
            match (encodings true (r.build (distance r (a + length) t))).find? (fun e => e.length == length) with
            | some e => some (e ++ rest)
            | none => none
          else none

/-- Where each procedure starts, and its parameter bytes. -/
def procedureStarts : Nat → List (Code × Nat) → List (Nat × Int × Nat)
  | _, [] => []
  | a, (.start k args, _) :: cs => (k, args, a) :: procedureStarts a cs
  | a, (_, length) :: cs => procedureStarts (a + length) cs

/-- No two neighbours of a rising list are more than `n` apart. -/
def gapsWithin (n : Nat) : List Nat → Bool
  | a :: b :: rest => decide (b - a ≤ n) && gapsWithin n (b :: rest)
  | _ => true

/-! ## Data blocks (R147, R176) -/

/-- A number as a program writes it: decimal, or octal where it starts with a zero (R141). -/
def parseNatural (s : List Byte) : Option Nat :=
  let digits := s.map (fun b => b.toNat - 48)
  if s.isEmpty || s.any (fun b => decide (b.toNat < 48) || decide (57 < b.toNat)) then none
  else if digits.headD 1 = 0 then (if digits.any (fun d => decide (7 < d)) then none else some (digits.foldl (fun n d => 8 * n + d) 0))
  else some (digits.foldl (fun n d => 10 * n + d) 0)

/-- The same with a sign. -/
def parseInteger (s : List Byte) : Option Int :=
  match s with
  | b :: rest => if b = 45#8 then (parseNatural rest).map (fun n => -(n : Int)) else (parseNatural s).map (fun n => (n : Int))
  | [] => none

/-- A decimal digit. -/
def isDigit (b : Byte) : Bool := decide (48 ≤ b.toNat) && decide (b.toNat ≤ 57)

/-- A text without its minus sign. -/
def withoutMinus (s : List Byte) : List Byte := if s.head? = some 45#8 then s.tail else s

/-- A real constant: digits, with a decimal point, an exponent, or both (R141). -/
def isReal (s : List Byte) : Bool :=
  let rest := (withoutMinus s).dropWhile isDigit
  let point := rest.head? == some 46#8
  let fraction := if point then rest.tail else rest
  let mantissa := (withoutMinus s).takeWhile isDigit ++ (if point then fraction.takeWhile isDigit else [])
  match (if point then fraction.dropWhile isDigit else fraction) with
  | [] => point && !mantissa.isEmpty
  | e :: power =>
    let digits := if power.head? = some 43#8 then power.tail else withoutMinus power
    (e == 69#8 || e == 101#8) && !mantissa.isEmpty && !digits.isEmpty && digits.all isDigit

/-- The words of a string, the first character in the low byte (R141). -/
def stringWords : List Byte → List Word
  | [] => []
  | [b] => [wordOf b 0#8]
  | b :: c :: rest => wordOf b c :: stringWords rest

/-- The block of one item, none for the end of a module. A label is its offset in its procedure, as the case tables of
R370 and R371 hold it; a symbol that LET gives a constant is a word, a data label a pointer. -/
def AsmScan.blockOf (c : AsmScan) (env : Symbols) (labels : List ((Nat × Nat) × Nat)) (starts : List (Nat × Int × Nat)) (d : DataItem) :
    Option (Option DataBlock) :=
  match d with
  | .space n => some (some (.uninitialized n))
  | .moduleEnd => some none
  | .value o k =>
    (match o with
    | .const v => if -32768 ≤ v ∧ v < 65536 then some (.words [u16 v]) else none
    | .proc s => (indexIn s c.procedures).map (fun n => .words [u16 n])
    | .string s => some (.words (stringWords s))
    | .real s => if isReal s then some (.floats [s]) else none
    | .long s =>
      (parseInteger s).bind (fun v =>
        if -2147483648 ≤ v ∧ v < 4294967296 then some (.doubles [(u16 (v / 65536), u16 v)]) else none)
    | .label n =>
      match k with
      | none => none
      | some k =>
        match lookupPair (k, n) labels, lookupPair k starts with
        | some t, some (_, base) => some (.pointers [u16 ((t : Int) - base)])
        | _, _ => none
    | o =>
      match o.symbolName with
      | none => none
      | some name =>
        (lookupPair name env).bind (fun v =>
          if v.2 then some (.pointers [u16 v.1])
          else if -32768 ≤ v.1 ∧ v.1 < 65536 then some (.words [u16 v.1]) else none) : Option DataBlock).map some

/-- A block added to the last ones, the last first: initialized blocks of one type in one module are joined (log entry
22). -/
def joinBlock (done : List (Option DataBlock)) (b : Option DataBlock) : List (Option DataBlock) :=
  match done, b with
  | some (.words as) :: rest, some (.words bs) =>
    if as.length + bs.length < 8192 then some (.words (as ++ bs)) :: rest else b :: done
  | some (.pointers as) :: rest, some (.pointers bs) =>
    if as.length + bs.length < 8192 then some (.pointers (as ++ bs)) :: rest else b :: done
  | some (.doubles as) :: rest, some (.doubles bs) =>
    if as.length + bs.length < 8192 then some (.doubles (as ++ bs)) :: rest else b :: done
  | some (.floats as) :: rest, some (.floats bs) =>
    if as.length + bs.length < 8192 then some (.floats (as ++ bs)) :: rest else b :: done
  | done, b => b :: done

/-- Pieces of at most 8191 elements, the largest count of a descriptor (R176); `fuel` bounds their number. -/
def pieces {α : Type} : Nat → List α → List (List α)
  | 0, _ => []
  | fuel + 1, ws => if ws.isEmpty then [] else ws.take 8191 :: pieces fuel (ws.drop 8191)

/-- A block of more words than one descriptor holds becomes several. -/
def splitBlock (b : DataBlock) : List DataBlock :=
  match b with
  | .words ws => if ws.length < 8192 then [b] else (pieces ws.length ws).map .words
  | b => [b]

/-! ## Modules (R143, R149, R151) -/

/-- The name all modules know a name by: the first byte tells it from every `ownName`. -/
def globalName (s : List Byte) : List Byte := 0#8 :: s

/-- The name under which module `m` keeps a symbol of its own, another one for every module and every symbol. -/
def ownName (m : Nat) (n : SymbolName) : List Byte :=
  List.replicate (m + 1) 1#8 ++
    (match n with
      | .num k => 0#8 :: 0#8 :: wordBytes (u16 k)
      | .name s => 0#8 :: 1#8 :: s)

/-- Data labels and assembly-time constants a module defines. -/
def definedSymbols : List AsmStatement → List SymbolName
  | [] => []
  | .data n :: ss => .num n :: definedSymbols ss
  | .symbol n :: ss => .name n :: definedSymbols ss
  | .pseudo .letTo (o :: _) :: ss =>
    match o.symbolName with
    | some n => n :: definedSymbols ss
    | none => definedSymbols ss
  | _ :: ss => definedSymbols ss

/-- Symbols a module exports (EXD). -/
def exportedSymbols : List AsmStatement → List SymbolName
  | [] => []
  | .pseudo .exd [o] :: ss =>
    match o.symbolName with
    | some n => n :: exportedSymbols ss
    | none => exportedSymbols ss
  | _ :: ss => exportedSymbols ss

/-- Procedures a module defines and does not export (R149). -/
def unexportedProcedures : List AsmStatement → List (List Byte)
  | [] => []
  | .pseudo .pro [.proc s, _, .const 0] :: ss => s :: unexportedProcedures ss
  | _ :: ss => unexportedProcedures ss

/-- The procedures a statement refers to. -/
def AsmStatement.procedures : AsmStatement → List (List Byte)
  | .instr _ (some (.proc s)) => [s]
  | .pseudo _ os => os.filterMap (fun o => match o with | .proc s => some s | _ => none)
  | _ => []

/-- Procedures that enter the undefined global reference table (R151): they are referred to before a PRO or an FWP makes
them known; `known` is what has been made known. -/
def undefinedReferences (known : List (List Byte)) : List AsmStatement → List (List Byte)
  | [] => []
  | .pseudo .pro (.proc s :: _) :: ss | .pseudo .fwp (.proc s :: _) :: ss => undefinedReferences (s :: known) ss
  | s :: ss => s.procedures.filter (fun n => !known.contains n) ++ undefinedReferences known ss

/-- Procedures a module keeps for itself: not exported, and not known outside as an undefined reference (R151). -/
def ownProcedures (ss : List AsmStatement) : List (List Byte) :=
  (unexportedProcedures ss).filter (fun s => !(undefinedReferences [] ss).contains s)

/-- Procedures a module announces by FWP. -/
def forwardProcedures : List AsmStatement → List (List Byte)
  | [] => []
  | .pseudo .fwp [.proc s] :: ss => s :: forwardProcedures ss
  | _ :: ss => forwardProcedures ss

/-- A module in itself: EOF ends it (R143), and what FWP announces is defined in it and not exported (R151). -/
def moduleForm (ss : List AsmStatement) : Bool :=
  endsInEof ss && (forwardProcedures ss).all (fun s => (unexportedProcedures ss).contains s)

/-- An operand with the module's own symbols and procedures under names no other module has, the others under the names
all modules know. -/
def AsmOperand.localize (m : Nat) (own : List SymbolName) (procedures : List (List Byte)) (o : AsmOperand) :
    AsmOperand :=
  match o with
  | .data n => if .num n ∈ own then .symbol (ownName m (.num n)) else o
  | .symbol s => .symbol (if .name s ∈ own then ownName m (.name s) else globalName s)
  | .proc s => .proc (if s ∈ procedures then ownName m (.name s) else globalName s)
  | o => o

/-- A statement likewise. -/
def AsmStatement.localize (m : Nat) (own : List SymbolName) (procedures : List (List Byte)) (s : AsmStatement) :
    AsmStatement :=
  match s with
  | .data n => if .num n ∈ own then .symbol (ownName m (.num n)) else s
  | .symbol n => .symbol (if .name n ∈ own then ownName m (.name n) else globalName n)
  | .instr line (some o) => .instr line (some (o.localize m own procedures))
  | .pseudo p os => .pseudo p (os.map (·.localize m own procedures))
  | s => s

/-- The statements of modules one after another, each with its blocks exchanged and its own names apart; `m` numbers
the first one. -/
def joinModules : Nat → List (List AsmStatement) → Option (List AsmStatement)
  | _, [] => some []
  | m, ss :: rest =>
    match exchangeBlocks ss [], joinModules (m + 1) rest with
    | some exchanged, some rest =>
      let own := (definedSymbols exchanged).filter (fun n => !(exportedSymbols exchanged).contains n)
      if moduleForm ss then some (exchanged.map (·.localize m own (ownProcedures exchanged)) ++ rest) else none
    | _, _ => none

/-! ## The load file -/

/-- Modules assembled and put together (R143 to R154); none where a rule of the language is broken. Procedures no
module defines have an empty descriptor and count as unresolved references (R171). Log entry 22: a zero byte makes an
odd text even (R174), decisions D-1 and E-1 (R6) are enforced, no label, procedure or symbol has two definitions, and the
ABS block has at least the word of the line number (R175). -/
def assemble (opts : AsmOptions) (modules : List (List AsmStatement)) : Option LoadFile := do
  let ss ← joinModules 0 modules
  let c ← AsmScan.statements ss (AsmScan.empty opts.absWords)
  let env ← c.symbols
  let code ← allSome (c.code.map (c.codeOf env))
  let code := useAlternate false code
  let sized := settle code.length (code.map (fun x => (x, x.firstLength)))
  let labels := labelAddresses 0 sized
  let starts := procedureStarts 0 sized
  let bytes ← codeBytes labels 0 sized
  let text := if bytes.length % 2 = 0 then bytes else bytes ++ [0#8]
  let blocks ← allSome (c.data.map (c.blockOf env labels starts))
  let blocks := ((blocks.foldl joinBlock []).reverse.filterMap id).flatMap splitBlock
  let entry ← indexIn (globalName opts.entry) c.procedures
  let descriptors := (List.range c.procedures.length).map (fun k =>
    match lookupPair k starts with
    | some (args, base) => (u16 args, u16 base)
    | none => (0#16, 0#16))
  let unresolved := (List.range c.procedures.length).filter (fun k => (lookupPair k starts).isNone)
  let file : LoadFile := {
    first := [3756#16, if c.reals then opts.flags ||| 16#16 else opts.flags, u16 unresolved.length, opts.version,
      0#16, 0#16, 0#16, 0#16]
    header := {
      ntext := u16 text.length, ndata := u16 (blocks.length + 1), nproc := u16 c.procedures.length, entry := u16 entry
      nline := u16 c.nline }
    unused := [0#16, 0#16, 0#16]
    text := text
    abs := u16 opts.absWords
    blocks := blocks
    descriptors := (descriptors.map (fun d => wordBytes d.1 ++ wordBytes d.2)).flatten }
  let procedureSizesFit := gapsWithin 32768 (starts.map (·.2.2) ++ [bytes.length])   -- R6 D-1
  if 1 ≤ opts.absWords ∧ keysDiffer labels ∧ keysDiffer starts ∧ file.wf ∧ 2 * c.size ≤ 32768 ∧ procedureSizesFit
      ∧ text.length ≤ 65535 then some file else none

/-- Compact assembly files assembled. -/
def assembleCompact (opts : AsmOptions) (files : List (List Byte)) : Option LoadFile :=
  match allSome (files.map readCompact) with
  | some modules => assemble opts modules
  | none => none

end Sys2Proof.Machine
end

