-- ==== Sys2Proof/Machine/AsmText.lean ====
section
/-! DEFINITION. The assembly language as a program is written (31_assembly_and_load_format.md R140 to R142): lines of
ASCII text to statements. -/

namespace Sys2Proof.Machine

/-- The mnemonics by NUMBER (R112), 1 to 70; 63 is a placeholder (R113). -/
def mnemonics1 : List String := [
  "aar", "aas", "add", "adi", "and", "ans", "beg", "beq", "bes", "bge", "bgt", "ble", "blm", "bls", "blt", "bne",
  "brb", "brf", "cal", "cas", "cdi", "cdf", "cfd", "cfi", "cid", "cif", "cmd", "cmf", "cmi", "cmp", "cms", "cmu",
  "com", "cos", "csa", "csb", "dad", "ddv", "dec", "dee", "del", "div", "dmd", "dmu", "dsb", "dup", "dus", "exg",
  "fad", "fdv", "fef", "fif", "fmu", "fsb", "hlt", "inc", "ine", "inl", "inn", "ins", "ior", "ios", "lab", "lae",
  "lai", "lal", "lar", "las", "lde", "ldf"]

/-- The mnemonics by NUMBER (R112), 71 to 139; 94 is a placeholder (R113). -/
def mnemonics2 : List String := [
  "ldl", "lex", "lin", "lnc", "lni", "loc", "loe", "lof", "loi", "lol", "lop", "lor", "los", "lsa", "mod", "mon",
  "mrk", "mrs", "mrx", "mul", "mxs", "neg", "nop", "nul", "pad", "psb", "rck", "rcs", "res", "ret", "rol", "ror",
  "rtt", "sai", "sar", "sas", "sde", "sdf", "sdl", "ses", "set", "shl", "shr", "sig", "ste", "stf", "sti", "stl",
  "stp", "str", "sts", "sub", "teq", "tge", "tgt", "tle", "tlt", "tne", "trp", "xor", "xos", "zeq", "zge", "zgt",
  "zle", "zlt", "zne", "zre", "zrl"]

/-- The mnemonics of the pseudoinstructions (R145 to R153). -/
def Pseudo.name : Pseudo → String
  | .bss => "bss" | .con => "con" | .endOf => "end" | .eof => "eof" | .exc => "exc" | .exd => "exd" | .fwa => "fwa"
  | .fwc => "fwc" | .fwp => "fwp" | .hol => "hol" | .ima => "ima" | .imc => "imc" | .letTo => "let" | .mes => "mes"
  | .pro => "pro" | .rom => "rom"

/-- The ASCII codes of a string. -/
def asciiOf (s : String) : List Byte := s.toList.map (fun c => BitVec.ofNat 8 c.toNat)

/-! ## Characters -/

/-- A space or a tab (R140). -/
def isBlank (b : Byte) : Bool := b == 32#8 || b == 9#8
/-- A letter of either case. -/
def isLetter (b : Byte) : Bool :=
  (decide (65 ≤ b.toNat) && decide (b.toNat ≤ 90)) || (decide (97 ≤ b.toNat) && decide (b.toNat ≤ 122))
/-- Upper case letters are read as lower case in mnemonics ("lower case, if available", R140). -/
def toLower (b : Byte) : Byte := if 65 ≤ b.toNat ∧ b.toNat ≤ 90 then b + 32#8 else b

/-- Blanks removed at both ends. -/
def trimBlanks (s : List Byte) : List Byte := ((s.dropWhile isBlank).reverse.dropWhile isBlank).reverse

/-- The lines of a text: each ends at an LF, whatever stands in it (R140). -/
def cutLines : List Byte → List (List Byte)
  | [] => [[]]
  | b :: rest =>
    if b = 10#8 then [] :: cutLines rest
    else
      match cutLines rest with
      | line :: lines => (b :: line) :: lines
      | [] => [[b]]

/-- A text cut at a character that is not inside double quotes; `quoted` says whether the text starts inside. -/
def cutAt (sep : Byte) (quoted : Bool) : List Byte → List (List Byte)
  | [] => [[]]
  | b :: rest =>
    if b = 34#8 then
      match cutAt sep (!quoted) rest with
      | piece :: pieces => (b :: piece) :: pieces
      | [] => [[b]]
    else if b = sep ∧ quoted = false then [] :: cutAt sep quoted rest
    else
      match cutAt sep quoted rest with
      | piece :: pieces => (b :: piece) :: pieces
      | [] => [[b]]

/-! ## Operands (R141, R142, R144) -/

/-- An octal digit. -/
def isOctal (b : Byte) : Bool := decide (48 ≤ b.toNat) && decide (b.toNat ≤ 55)

/-- The characters of a string between its quotes: a backslash and three octal digits are one byte (R141); any other
backslash is refused (log entry 22). -/
def unescape : List Byte → Option (List Byte)
  | [] => some []
  | b :: rest =>
    if b = 92#8 then
      match rest with
      | x :: y :: z :: rest =>
        if isOctal x && isOctal y && isOctal z && decide (x.toNat < 52) then
          (unescape rest).map (BitVec.ofNat 8 (64 * (x.toNat - 48) + 8 * (y.toNat - 48) + (z.toNat - 48)) :: ·)
        else none
      | _ => none
    else if b = 34#8 then none
    else (unescape rest).map (b :: ·)

/-- A name: a letter, period or underscore first, then letters, digits, periods and underscores (R140). -/
def isName (s : List Byte) : Bool :=
  match s with
  | [] => false
  | b :: rest =>
    (isLetter b || b == 46#8 || b == 95#8) && rest.all (fun c => isLetter c || isDigit c || c == 46#8 || c == 95#8)

/-- A label `.n`, the number without leading zeros, or any other name. -/
def nameOperand (s : List Byte) : AsmOperand :=
  match s with
  | [] => .symbol s
  | b :: rest =>
    if b = 46#8 ∧ rest ≠ [] ∧ rest.all isDigit = true ∧ (rest = [48#8] ∨ rest.head? ≠ some 48#8) ∧ rest.foldl (fun n c => 10 * n + (c.toNat - 48)) 0 < 65536 then
      .data (rest.foldl (fun n c => 10 * n + (c.toNat - 48)) 0)
    else .symbol s

/-- A number: a double with an L behind it, a real with a decimal point or an exponent, else an integer (R141). -/
def numberOperand (s : List Byte) : Option AsmOperand :=
  match s.reverse with
  | [] => none
  | last :: front =>
    if toLower last = 108#8 then (parseInteger front.reverse).map (fun _ => .long front.reverse)
    else if isReal s then some (.real s)
    else (parseInteger s).map (fun v => .const v)

/-- One operand; `names` says that a bare name is a procedure (the operands of CAL, PRO and FWP). What begins with a
period is a label or a name and never a real: `.5` is a label, `0.5` a real (log entry 22). -/
def parseOperand (names : Bool) (s : List Byte) : Option AsmOperand :=
  match s with
  | [] => none
  | b :: rest =>
    if b = 34#8 then
      match rest.reverse with
      | q :: inner => if q = 34#8 then (unescape inner.reverse).map .string else none
      | [] => none
    else if b = 36#8 then (if isName rest then some (.proc rest) else none)
    else if b = 42#8 then (parseNatural rest).map (fun n => .label n)
    else if isDigit b || b == 45#8 then numberOperand s
    else if isName s then some (if names then .proc s else nameOperand s)
    else none

/-- The operands of a statement: the first may be the name of a procedure. Blanks around the commas are skipped (log entry
22). -/
def parseOperands (names : Bool) (s : List Byte) : Option (List AsmOperand) :=
  if s = [] then some []
  else
    match (cutAt 44#8 false s).map trimBlanks with
    | [] => none
    | first :: others => allSome (parseOperand names first :: others.map (parseOperand false))

/-! ## Lines (R140) -/

/-- MRX and MXS have no mnemonic: the assembler alone uses them (R154 e, R353, R354). -/
def hasMnemonic (line : Nat) : Bool := !table.any (fun r => r.number == line && r.has .a)

/-- A statement, its mnemonic first. -/
def parseStatement (s : List Byte) : Option AsmStatement :=
  let word := (s.takeWhile (fun b => !isBlank b)).map toLower
  let rest := trimBlanks (s.dropWhile (fun b => !isBlank b))
  match Pseudo.all.find? (fun p => asciiOf p.name == word) with
  | some p =>
    match parseOperands (p == .pro || p == .fwp) rest with
    | some os => if p.arity.isNone || p.arity == some os.length then some (.pseudo p os) else none
    | none => none
  | none =>
    match indexIn word ((mnemonics1 ++ mnemonics2).map asciiOf) with
    | none => none
    | some k =>
      if !hasMnemonic (k + 1) then none else
      match hasOperand (k + 1), parseOperands (word == asciiOf "cal") rest with
      | some false, some [] => some (.instr (k + 1) none)
      | some true, some [o] => some (.instr (k + 1) (some o))
      | _, _ => none

/-- The statements that may have a data label (R140). -/
def AsmStatement.labelled : AsmStatement → Bool
  | .pseudo .con _ | .pseudo .rom _ | .pseudo .bss _ => true
  | _ => false

/-- A line: what follows a semicolon is a comment, but a semicolon inside double quotes belongs to the string (log entry
22); a label starts in column 1, a statement does not. -/
def parseLine (line : List Byte) : Option (List AsmStatement) :=
  let text := (cutAt 59#8 false line).headD []
  let first := text.takeWhile (fun b => !isBlank b)
  let rest := trimBlanks (text.dropWhile (fun b => !isBlank b))
  if first = [] then (if rest = [] then some [] else (parseStatement rest).map (fun s => [s]))
  else if first.all isDigit then (if rest = [] then (parseNatural first).map (fun n => [.label n]) else none)
  else if isName first && decide (first.length ≤ 8) then
    match parseStatement rest with
    | some s =>
      if s.labelled then
        match nameOperand first with
        | .data n => some [.data n, s]
        | _ => some [.symbol first, s]
      else none
    | none => none
  else none

/-- A module as it is written: lines that end in LF. -/
def parseModule (text : List Byte) : Option (List AsmStatement) :=
  (allSome ((cutLines text).map parseLine)).map List.flatten

/-- Modules assembled from their text. -/
def assembleText (opts : AsmOptions) (texts : List (List Byte)) : Option LoadFile :=
  match allSome (texts.map parseModule) with
  | some modules => assemble opts modules
  | none => none

end Sys2Proof.Machine
end

