-- ==== Sys2Proof/Machine/Kernel.lean ====
section
/-! DEFINITION. The kernel instruction set and the replacement sequences (31_assembly_and_load_format.md R190 to
R197). -/

namespace Sys2Proof.Machine

/-- The sequence of simpler instructions that replaces an instruction; none for a basic instruction, for LAS and SAS
(R196: only where the element size is known) and for the forms that have no assembly mnemonic (R353). A branch
operand stands for the same target in both (R194). The sequences of LAI and SAI are as R191 prints them, which end at the
address of the pointer variable and so do not do what R206 and R223 say (log entry 26). -/
def replacement (i : Instr) : Option (List Instr) :=
  match i with
  | .lnc m => some [.loc (-m)]
  | .lol x => some [.lal x, .loi 2]
  | .loe x => some [.lae x, .loi 2]
  | .lop x => some [.lol x, .loi 2]
  | .lai y => some [.dup 2, .dup 2, .loi 2, .adi y, .exg, .sti 2, .loi y]
  | .lof m => some [.adi m, .loi 2]
  | .lal x => some [.lex 0, .adi x]
  | .loi y => some [.loc y, .los]
  | .ldl x => some [.lal x, .loi 4]
  | .lde x => some [.lae x, .loi 4]
  | .ldf m => some [.adi m, .loi 4]
  | .stl x => some [.lal x, .sti 2]
  | .ste x => some [.lae x, .sti 2]
  | .stp x => some [.lol x, .sti 2]
  | .sai y => some [.dup 2, .dup 2, .loi 2, .adi y, .exg, .sti 2, .sti y]
  | .stf m => some [.adi m, .sti 2]
  | .sti y => some [.loc y, .sts]
  | .sdl x => some [.lal x, .sti 4]
  | .sde x => some [.lae x, .sti 4]
  | .sdf m => some [.adi m, .sti 4]
  | .mod => some [.dup 4, .div, .mul, .sub]
  | .neg => some [.loc 0, .exg, .sub]
  | .dmd => some [.dup 8, .ddv, .dmu, .dsb]
  | .adi m => some [.loc m, .pad]
  | .inc => some [.loc 1, .add]
  | .dec => some [.loc 1, .sub]
  | .inl x => some [.lol x, .inc, .stl x]
  | .ine x => some [.loe x, .inc, .ste x]
  | .del x => some [.lol x, .dec, .stl x]
  | .dee x => some [.loe x, .dec, .ste x]
  | .zrl x => some [.loc 0, .stl x]
  | .zre x => some [.loc 0, .ste x]
  | .cif => some [.cid, .cdf]
  | .cfi => some [.cfd, .cdi]
  | .and p => some [.loc p, .ans]
  | .ior p => some [.loc p, .ios]
  | .xor p => some [.loc p, .xos]
  | .com p => some [.loc p, .cos]
  | .inn p => some [.loc p, .ins]
  | .xset p => some [.loc p, .ses]
  | .lar x => some [.lae x, .las]
  | .sar x => some [.lae x, .sas]
  | .aar x => some [.lae x, .aas]
  | .cmu p => some [.loc p, .cms]
  | .tle => some [.tgt, .teq]
  | .tge => some [.tlt, .teq]
  | .tne => some [.teq, .teq]
  | .brf n => some [.loc 0, .zeq n]
  | .blt n => some [.cmi, .zlt n]
  | .ble n => some [.cmi, .zle n]
  | .beq n => some [.cmi, .zeq n]
  | .bne n => some [.cmi, .zne n]
  | .bge n => some [.cmi, .zge n]
  | .bgt n => some [.cmi, .zgt n]
  | .zlt n => some [.tlt, .zne n]
  | .zle n => some [.tle, .zne n]
  | .zeq n => some [.teq, .zne n]
  | .zge n => some [.tge, .zne n]
  | .zgt n => some [.tgt, .zne n]
  | .mrk n => some [.loc n, .mrs]
  | .cal n => some [.loc n, .cas]
  | .ret p => some [.loc p, .res]
  | .beg z => some [.loc z, .bes]
  | .blm p => some [.loc p, .bls]
  | .dup p => some [.loc p, .dus]
  | .lin n => some [.loc n, .ste 0]
  | .lni => some [.ine 0]
  | .rck x => some [.lae x, .rcs]
  | .loc _ | .lae _ | .lex _ | .los | .sts | .add | .sub | .mul | .div | .shl | .shr | .dad | .dsb | .dmu | .ddv
  | .fad | .fsb | .fmu | .fdv | .fif | .fef | .pad | .psb | .cid | .cdi | .cdf | .cfd | .ans | .ios | .xos | .cos
  | .rol | .ror | .ins | .ses | .aas | .cmi | .cmd | .cmf | .cms | .cmp | .tgt | .tlt | .teq | .brb _ | .zne _ | .mrs
  | .cas | .res | .bes | .bls | .csa | .csb | .dus | .exg | .hlt | .lor _ | .mon | .nop | .rcs | .rtt | .sig | .str _
  | .trp => none
  | .las | .sas | .mrx _ | .mxs | .lsa _ | .escape | .illegal _ => none

/-- The replacements of LAS and SAS for elements of `y` bytes (R196). -/
def replacementLas (y : Int) : List Instr := [.aas, .loi y]
/-- R196. -/
def replacementSas (y : Int) : List Instr := [.aas, .sti y]

/-- The shorter replacements of LAI and SAI behind the instruction that pushes the address of the pointer (R196). -/
def replacementPair (first second : Instr) : Option (List Instr) :=
  match first, second with
  | .lal x, .lai y => some [.lol x, .dup 2, .adi y, .stl x, .loi y]
  | .lae x, .lai y => some [.loe x, .dup 2, .adi y, .ste x, .loi y]
  | .lal x, .sai y => some [.lol x, .dup 2, .adi y, .stl x, .sti y]
  | .lae x, .sai y => some [.loe x, .dup 2, .adi y, .ste x, .sti y]
  | _, _ => none

/-- Execute a sequence of instructions one after another, as long as the machine runs and nothing has trapped. -/
def execAll : List Instr → State → Result
  | [], s => .next s
  | i :: is, s =>
    match exec i s with
    | .next t => if t.status = .running ∧ t.pending = s.pending then execAll is t else .next t
    | .fault r => .fault r
    | .refused r => .refused r

/-- An address in the stack, the top word whole, or in the heap: what a program can read, byte by byte or word by word
(R63, R64). The words between SP and HP are out of its reach. -/
def State.reaches (s : State) (a : Int) : Bool :=
  decide (0 ≤ a) && decide (a ≤ s.maxdata) && (decide (a ≤ s.spI + 1) || decide (s.hpI ≤ a))

/-- Two states a program cannot tell apart by reading its data: equal but for the bytes it cannot reach. -/
def sameVisible (s t : State) : Prop :=
  { s with data := [] } = { t with data := [] } ∧ ∀ a : Int, s.reaches a = true → s.byte a = t.byte a

end Sys2Proof.Machine
end

