-- ==== Sys2Proof/Safety.lean ====
section
/-! DEFINITION. The terms claims are stated in: which states are sound, what the stack holds, and what a step may
change. -/

namespace Sys2Proof.Machine

/-! ## Sound states -/

/-- A state the registers' update rules allow (R14, R22 to R25), with canonical memories inside their spaces (R60),
a descriptor table that fits (D2), and PD at the end of the text (R27). -/
def State.wf (s : State) : Bool :=
  s.params.wf && s.data.wf && s.code.wf && sigWf s.sigmap
    && s.data.all (fun c => decide (c.1 ≤ s.params.maxdata)) && s.code.all (fun c => decide (c.1 ≤ s.params.maxcode))
    && decide (s.lbI % 2 = 0) && decide (s.spI % 2 = 0) && decide (s.hpI % 2 = 0)
    && decide (s.lbI ≤ s.spI + 2) && decide (s.spI < s.hpI) && decide (s.hpI ≤ s.maxdata + 1)
    && decide (s.pcI ≤ s.pdI) && decide (s.pd = s.header.ntext)
    && decide (s.pdI + 4 * s.nproc ≤ s.maxcode + 1)

/-- The invariant of a machine between two steps: a sound state with nothing waiting to be delivered (R414). -/
def State.inv (s : State) : Bool := s.wf && decide (s.pending = [])

/-! ## The operand stack -/

/-- `n` bytes fit between SP and HP. -/
def State.room (s : State) (n : Int) : Bool := decide (s.spI + n < s.hpI)

/-- The frame holds at least `n` bytes from LB to the top of the stack. -/
def State.has (s : State) (n : Int) : Bool := decide (s.lbI ≤ s.spI + 2 - n)

/-- The `i`-th word from the top (0 is the top), signed. -/
def State.top (s : State) (i : Int) : Int := s16 (s.word (s.spI - 2 * i))

/-- The `i`-th word from the top, unsigned. -/
def State.topA (s : State) (i : Int) : Int := adr (s.word (s.spI - 2 * i))

/-- SP raised by one word, and the word stored there. -/
def State.pushed (s : State) (v : Int) : State := (s.setSp (s.spI + 2)).putWord (s.spI + 2) v

/-- Several words pushed, the first one first. -/
def State.pushedAll (s : State) : List Int → State
  | [] => s
  | v :: vs => (s.pushed v).pushedAll vs

/-- SP lowered by `n` bytes. -/
def State.drop (s : State) (n : Int) : State := s.setSp (s.spI - n)

/-- Error numbers appended to `pending`. -/
def State.raiseAll (s : State) (ns : List Byte) : State := { s with pending := s.pending ++ ns }

/-- The machine stopped by an error (R413). -/
def State.abort (s : State) (n : Byte) : State := s.stopped (.aborted n)

/-- These non-fatal errors do not stop the machine: there are none, or an error procedure is set (R412). -/
def State.tolerates (s : State) (ns : List Byte) : Bool := ns.isEmpty || !s.defaultHandling

/-- A list of one error number, or none. -/
def raisedIf (c : Bool) (n : Byte) : List Byte := if c then [n] else []

/-- The words at `a`, `a + 2`, …, `n` of them, signed. -/
def State.wordsAt (s : State) (a : Int) : Nat → List Int
  | 0 => []
  | n + 1 => s16 (s.word a) :: State.wordsAt s (a + 2) n

/-- Words stored at `a`, `a + 2`, …. -/
def State.putWords (s : State) (a : Int) : List Int → State
  | [] => s
  | v :: vs => State.putWords (s.putWord a v) (a + 2) vs

/-- Every word of the `n` bytes from `a` may be accessed (R63, R64). -/
def State.okblock (s : State) (a n : Int) : Bool :=
  decide (a % 2 = 0) && decide (0 ≤ a) && decide (a + n ≤ s.maxdata + 1)
    && (decide (a + n ≤ s.spI + 2) || decide (s.hpI ≤ a))

/-- The `n` words from the `i`-th one from the top downward, signed, the upper one first. -/
def State.tops (s : State) (i : Int) : Nat → List Int
  | 0 => []
  | n + 1 => s.top i :: State.tops s (i + 1) n

/-- Words stored from `a` up, the last one of the list lowest: the order in which pops store an object (R15). -/
def State.storeDown (s : State) (a : Int) : List Int → State
  | [] => s
  | v :: vs => State.storeDown (s.putWord (a + 2 * (vs.length : Int)) v) a vs

/-- The bytes an object of `k` bytes takes on the stack (R15). -/
def stackSize (k : Int) : Int := if k = 1 then 2 else k

/-- The words the object of `k` bytes at `a` is on the stack (R15, R83). -/
def State.objectAt (s : State) (a k : Int) : List Int :=
  if k = 1 then [((s.byte a).toNat : Int)] else s.wordsAt a (k / 2).toNat

/-- The object of `k` bytes at `a` may be accessed. -/
def State.okobject (s : State) (a k : Int) : Bool := if k = 1 then s.okadr a else s.okblock a k

/-- The state with the object of `k` bytes that starts at the `i`-th word from the top popped to `a` (R15, R83). -/
def State.popObject (s : State) (i a k : Int) : State :=
  if k = 1 then (s.drop (2 * i + 2)).putByte a (s.byte (s.spI - 2 * i))
  else (s.drop (2 * i + k)).storeDown a (s.tops i (k / 2).toNat)

/-- That object may be popped to `a`: it lies in the frame and the target is admitted. -/
def State.okpop (s : State) (i a k : Int) : Bool :=
  s.has (2 * i + stackSize k)
    && (if k = 1 then (s.drop (2 * i)).okadr a else (s.drop (2 * i + k)).okblock a k)

/-- The frame address `n` static links from `a` (R210, R351). -/
def State.linkAt (s : State) : Nat → Int → Int
  | 0, a => a
  | n + 1, a => State.linkAt s n (adr (s.word (a - 6)))

/-- The static links followed from `a` are admitted. -/
def State.oklinks (s : State) : Nat → Int → Bool
  | 0, _ => true
  | n + 1, a => s.okword (a - 6) && State.oklinks s n (adr (s.word (a - 6)))

/-- The base address in the descriptor of a procedure (R73). -/
def State.procBaseOf (s : State) (n : Int) : Int := adr (s.codeWord (s.pdI + 4 * n + 2))

/-- The number of parameter bytes in the descriptor of a procedure (R73). -/
def State.procArgs (s : State) (n : Int) : Int := adr (s.codeWord (s.pdI + 4 * n))

/-- A procedure can be entered: its number is in the table, the table lies at an even address, and its base is in the
text (R65, R14, D14). -/
def State.okproc (s : State) (n : Int) : Bool :=
  decide (0 ≤ n) && decide (n < s.nproc) && decide (s.pdI % 2 = 0) && decide (s.procBaseOf n ≤ s.pdI)

/-! ## What changes -/

/-- Every byte outside the `n` bytes from `a` reads as before. -/
def storesOnly (s t : State) (a n : Int) : Prop :=
  ∀ x : Int, 0 ≤ x → (x < a ∨ a + n ≤ x) → t.byte x = s.byte x

/-- Every byte of data memory reads as before. -/
def storesNothing (s t : State) : Prop := ∀ x : Int, t.byte x = s.byte x

/-- All but the program counter, the stack pointer, the data memory, `pending` and the count of free values is as
before. -/
def sameRest (s t : State) : Prop :=
  t = { s with pc := t.pc, sp := t.sp, data := t.data, pending := t.pending, freeCount := t.freeCount }

/-- An instruction completes in `t`: but for what `sameRest` leaves out nothing but the `n` bytes from `a` changes. -/
def completes (i : Instr) (s t : State) (a n : Int) : Prop :=
  exec i s = .next t ∧ sameRest s t ∧ storesOnly s t a n

/-! ## Values of doubles and reals (R244, decision D27) -/

/-- The double two words stand for. -/
def dblVal (w0 w1 : Word) : Int := (dblValue w0 w1).getD (Config.dblUndefined w0 w1)
/-- What taking that double raises. -/
def dblRaises (w0 w1 : Word) : List Byte := raisedIf (dblValue w0 w1).isNone EDUND
/-- The real two words stand for. -/
def fltVal (w0 w1 : Word) : Rat := (Config.fltDecode w0 w1).getD (Config.fltUndefined w0 w1)
/-- What taking that real raises. -/
def fltRaises (w0 w1 : Word) : List Byte := raisedIf (Config.fltDecode w0 w1).isNone EFUND

/-- The double whose higher word is the `i`-th word from the top. -/
def State.topD (s : State) (i : Int) : Int := dblVal (s.word (s.spI - 2 * i - 2)) (s.word (s.spI - 2 * i))
/-- What popping it raises. -/
def State.topDRaises (s : State) (i : Int) : List Byte :=
  dblRaises (s.word (s.spI - 2 * i - 2)) (s.word (s.spI - 2 * i))
/-- The real whose higher word is the `i`-th word from the top. -/
def State.topR (s : State) (i : Int) : Rat := fltVal (s.word (s.spI - 2 * i - 2)) (s.word (s.spI - 2 * i))
/-- What popping it raises. -/
def State.topRRaises (s : State) (i : Int) : List Byte :=
  fltRaises (s.word (s.spI - 2 * i - 2)) (s.word (s.spI - 2 * i))
/-- A double pushed. -/
def State.pushedD (s : State) (d : Int) : State :=
  s.pushedAll [adr (Config.dblEncode d).1, adr (Config.dblEncode d).2]
/-- A real pushed. -/
def State.pushedR (s : State) (r : Rat) : State :=
  s.pushedAll [adr (Config.fltEncode r).1, adr (Config.fltEncode r).2]

/-! ## Effects that an immediate form and a stacked form share (R200: "k <- popw(); then as …") -/

/-- LOI (R211): when it completes. -/
def loiPre (k : Int) (s : State) : Bool :=
  isY k && s.has 2 && (s.drop 2).okobject (s.topA 0) k && (s.drop 2).room (stackSize k)
/-- LOI: the state it leaves. -/
def loiPost (k : Int) (s : State) : State := (s.drop 2).pushedAll (s.objectAt (s.topA 0) k)

/-- STI (R225): when it completes. -/
def stiPre (k : Int) (s : State) : Bool := isY k && s.okpop 1 (s.topA 0) k
/-- STI: the state it leaves. -/
def stiPost (k : Int) (s : State) : State := s.popObject 1 (s.topA 0) k

/-- AND, IOR, XOR (R285): when they complete. -/
def logicalPre (k : Int) (s : State) : Bool := isP k && s.has (2 * k)
/-- AND, IOR, XOR: the state they leave. -/
def logicalPost (op : Word → Word → Word) (k : Int) (s : State) : State :=
  (s.drop k).storeDown (s.spI - 2 * k + 2)
    (((s.tops (k / 2) (k / 2).toNat).zip (s.tops 0 (k / 2).toNat)).map (fun p => adr (op (u16 p.1) (u16 p.2))))

/-- COM (R292): when it completes. -/
def comPre (k : Int) (s : State) : Bool := isP k && s.has k
/-- COM: the state it leaves. -/
def comPost (k : Int) (s : State) : State :=
  s.putWords (s.spI - k + 2) ((s.wordsAt (s.spI - k + 2) (k / 2).toNat).map (fun w => adr (~~~ (u16 w))))

/-- What INN and SET raise for element `n` of a set of `k` bytes (R297, R299). -/
def setRaises (n k : Int) : List Byte := raisedIf (decide (n < 0) || decide (8 * k ≤ n)) ESET

/-- INN (R297): when it completes. -/
def innPre (k : Int) (s : State) : Bool := isP k && s.has (k + 2) && s.tolerates (setRaises (s.top 0) k)
/-- INN: the state it leaves. -/
def innPost (k : Int) (s : State) : State :=
  ((s.drop (k + 2)).raiseAll (setRaises (s.top 0) k)).pushed
    (if 0 ≤ s.top 0 ∧ s.top 0 < 8 * k then
      ofBool ((s.word (s.spI - k + 2 * (s.top 0 / 16))).getLsbD (s.top 0 % 16).toNat)
     else 0)

/-- SET (R299): when it completes. -/
def setPre (k : Int) (s : State) : Bool :=
  isP k && s.has 2 && (s.drop 2).room k && s.tolerates (setRaises (s.top 0) k)
/-- SET: the state it leaves. -/
def setPost (k : Int) (s : State) : State :=
  ((s.drop 2).raiseAll (setRaises (s.top 0) k)).pushedAll
    (if 0 ≤ s.top 0 ∧ s.top 0 < 8 * k then
      List.replicate (s.top 0 / 16).toNat 0 ++ [2 ^ (s.top 0 % 16).toNat]
        ++ List.replicate (k / 2 - s.top 0 / 16 - 1).toNat 0
     else List.replicate (k / 2).toNat 0)

/-- The fields of the array descriptor at `x` (R74). -/
def State.arrayLower (s : State) (x : Int) : Int := s16 (s.word x)
/-- R74. -/
def State.arrayRange (s : State) (x : Int) : Int := s16 (s.word (x + 2))
/-- R74. -/
def State.arraySize (s : State) (x : Int) : Int := s16 (s.word (x + 4))
/-- What a subscript raises (R305): the index is the top of the stack. -/
def arrayRaises (x : Int) (s : State) : List Byte :=
  raisedIf (decide (s.top 0 < s.arrayLower x) || decide (s.arrayLower x + s.arrayRange x < s.top 0)) EARRAY
/-- The address of the element (R305): the index is on top of the address of the array. -/
def arrayAddress (x : Int) (s : State) : Int := (s.top 0 - s.arrayLower x) * s.arraySize x + s.topA 1
/-- The subscript calculation completes (R305). -/
def arrayPre (x : Int) (s : State) : Bool :=
  isX x && s.has 4 && (s.drop 4).okblock x 6 && s.tolerates (arrayRaises x s)
    && decide (0 ≤ s.arraySize x) && (decide (s.arraySize x ≤ 1) || decide (s.arraySize x % 2 = 0))
/-- AAR (R310): the state it leaves. -/
def aarPost (x : Int) (s : State) : State := ((s.drop 4).raiseAll (arrayRaises x s)).pushed (arrayAddress x s)
/-- LAR (R306): when it completes. -/
def larPre (x : Int) (s : State) : Bool :=
  arrayPre x s && isY (s.arraySize x) && (s.drop 4).okobject (arrayAddress x s) (s.arraySize x)
    && (s.drop 4).room (stackSize (s.arraySize x))
/-- LAR: the state it leaves. -/
def larPost (x : Int) (s : State) : State :=
  ((s.drop 4).raiseAll (arrayRaises x s)).pushedAll (s.objectAt (arrayAddress x s) (s.arraySize x))
/-- SAR (R308): when it completes. -/
def sarPre (x : Int) (s : State) : Bool :=
  arrayPre x s && isY (s.arraySize x) && s.okpop 2 (arrayAddress x s) (s.arraySize x)
/-- SAR: the state it leaves. -/
def sarPost (x : Int) (s : State) : State :=
  (s.raiseAll (arrayRaises x s)).popObject 2 (arrayAddress x s) (s.arraySize x)

/-- The order of two blocks, each a list of words from its top down (R317): unsigned, the first difference decides. -/
def blockOrder : List Int → List Int → Int
  | a :: as, b :: bs => if adr (u16 a) < adr (u16 b) then -1 else if adr (u16 b) < adr (u16 a) then 1 else blockOrder as bs
  | _, _ => 0
/-- CMU (R318): when it completes. -/
def cmuPre (k : Int) (s : State) : Bool := isP k && s.has (2 * k)
/-- CMU: the state it leaves. -/
def cmuPost (k : Int) (s : State) : State :=
  (s.drop (2 * k)).pushed (blockOrder (s.tops (k / 2) (k / 2).toNat) (s.tops 0 (k / 2).toNat))

/-- MRK (R351): when it completes. -/
def mrkPre (k : Int) (s : State) : Bool := isN k && s.oklinks k.toNat s.lbI && s.room 6
/-- MRK and MRX: the state they leave, in the context `b`. -/
def mrkPost (b : Bool) (k : Int) (s : State) : State :=
  (s.pushedAll [s.linkAt k.toNat s.lbI, s.lbI, 0]).setNormal b

/-- CAL (R355): when it completes. -/
def calPre (k : Int) (s : State) : Bool := s.okproc k && s.okword (s.spI - s.procArgs k)
/-- CAL: the state it leaves. -/
def calPost (k : Int) (s : State) : State :=
  (((s.putWord (s.spI - s.procArgs k) s.pcI).setPc (s.procBaseOf k)).setLb (s.spI + 2 - s.procArgs k)).setNormal true

/-- The mark block of the frame can be left (R357, R383): the return address is in the text and the dynamic link is
even and at or below the words of the mark block. -/
def State.okreturn (s : State) : Bool :=
  s.okword (s.lbI - 2) && s.okword (s.lbI - 4) && decide (adr (s.word (s.lbI - 2)) ≤ s.pdI)
    && decide (adr (s.word (s.lbI - 4)) % 2 = 0) && decide (adr (s.word (s.lbI - 4)) ≤ s.lbI - 6)
    && decide (6 ≤ s.lbI)
/-- RET (R357): when it completes. -/
def retPre (k : Int) (s : State) : Bool := isX k && s.has k && s.okreturn
/-- RET: the state it leaves. -/
def retPost (k : Int) (s : State) : State :=
  (((s.setPc (adr (s.word (s.lbI - 2)))).setLb (adr (s.word (s.lbI - 4)))).putWords (s.lbI - 6)
    (s.wordsAt (s.spI - k + 2) (k / 2).toNat)).setSp (s.lbI - 8 + k)

/-- BEG (R366): when it completes. -/
def begPre (k : Int) (s : State) : Bool := isZ k && (if 0 ≤ k then s.room k else s.has (-k))
/-- BEG: the state it leaves. -/
def begPost (k : Int) (s : State) : State :=
  if 0 ≤ k then s.pushedAll (List.replicate (k / 2).toNat (-32768)) else s.setSp (s.spI + k)

/-- BLM (R368): when it completes and no word is copied twice. -/
def blmPre (k : Int) (s : State) : Bool :=
  isX k && s.has 4 && (s.drop 4).okblock (s.topA 0) k && (s.drop 4).okblock (s.topA 1) k
    && (decide (s.topA 0 ≤ s.topA 1) || decide (s.topA 1 + k ≤ s.topA 0))
/-- BLM: the state it leaves. -/
def blmPost (k : Int) (s : State) : State :=
  (s.drop 4).putWords (s.topA 0) (s.wordsAt (s.topA 1) (k / 2).toNat)

/-- DUP (R372): when it completes. -/
def dupPre (k : Int) (s : State) : Bool := isP k && s.has k && s.room k
/-- DUP: the state it leaves. -/
def dupPost (k : Int) (s : State) : State := s.pushedAll (s.wordsAt (s.spI - k + 2) (k / 2).toNat)

/-- What RCK raises (R381). -/
def rckRaises (x : Int) (s : State) : List Byte :=
  raisedIf (decide (s.top 0 < s16 (s.word x)) || decide (s16 (s.word (x + 2)) < s.top 0)) ERANGE
/-- RCK (R381): when it completes. -/
def rckPre (x : Int) (s : State) : Bool :=
  isX x && s.has 2 && s.okblock x 4 && s.tolerates (rckRaises x s)

end Sys2Proof.Machine
end

