-- ==== Sys2Proof/Certificates/Slice0/Obligations.lean ====
section
/-! DEFINITION. The statements for the provers. The rules they rest on are named in OBLIGATIONS.json. -/

open Sys2Proof Sys2Proof.Machine

/-! ## Start, decoding, steps -/

/-- What R36 and R451 give with no program loaded (the size G = 2 is the model's choice, log entry 2). -/
def Obligations.ResetMatchesStartTable : Prop :=
  State.reset.lbI = 2 + 6 ∧ State.reset.spI = 2 + 4 ∧ State.reset.hpI = State.reset.maxdata + 1 ∧
  State.reset.word 2 = u16 State.reset.maxdata ∧ State.reset.word 4 = u16 State.reset.maxdata ∧
  State.reset.word 6 = u16 State.reset.maxcode ∧ State.reset.word 0 = 0#16 ∧
  State.reset.normalmap = true ∧ State.reset.uerrorlb = 0#16 ∧ State.reset.uerrorproc = 0#16 ∧
  State.reset.status = .running ∧ State.reset.pending = [] ∧ State.reset.saved = [] ∧
  State.reset.sigmap = [] ∧ State.reset.pd = State.reset.header.ntext ∧
  (∀ a : Int, 8 ≤ a → State.reset.byte a = 0#8) ∧ (∀ a : Nat, State.reset.code.read a = 0#8)

/-- The state after reset satisfies the invariant that every step keeps. -/
def Obligations.ResetSatisfiesInvariant : Prop :=
  State.reset.inv = true ∧ State.reset.status = .running

/-- Words of the encoding tables decode to their instructions; every primary opcode but the escape is assigned, and the
unassigned secondary opcodes are those of R115. -/
def Obligations.EncodingTablesDecode : Prop :=
  (decode true [6#8] = .instr (.loc 5) 1 ∧
   decode true [34#8, 33#8] = .instr (.loc 33) 2 ∧
   decode true [36#8, 255#8, 255#8] = .instr (.loc (-1)) 3 ∧
   decode true [0#8, 108#8, 128#8, 0#8] = .instr (.lnc (-32768)) 4 ∧
   decode true [123#8] = .instr (.loi 1) 1 ∧
   decode true [80#8, 128#8, 0#8] = .instr (.loe (-65536)) 3 ∧
   decode true [135#8, 10#8] = .instr (.lar 20) 2 ∧
   decode false [135#8] = .instr (.cal 1) 1 ∧
   decode true [0#8, 200#8] = .instr (.illegal 200#8) 2) ∧
  ((∀ op : Byte, (primaryEntry op).isSome = decide (op ≠ 0#8)) ∧
   (∀ op : Byte, (secondaryEntry op).isNone = unassigned op))

/-- Every encoding of a well-formed instruction, in either context and whatever bytes follow, decodes to it and to
its own length; in the normal context every instruction has one, and `encode` gives a shortest. -/
def Obligations.EveryEncodingDecodesBack : Prop :=
  ∀ (normal : Bool) (i : Instr) (rest : List Byte), i.wf = true → (i = .escape → rest = []) →
    (∀ e ∈ encodings normal i, decode normal (e ++ rest) = .instr i e.length) ∧
    encode i ∈ encodings true i ∧ ∀ e ∈ encodings true i, (encode i).length ≤ e.length

/-- Every instruction the decoder reads is well-formed, and the bytes it was read from are one of its encodings. -/
def Obligations.EveryDecodingIsAnEncoding : Prop :=
  ∀ (normal : Bool) (bs : List Byte) (i : Instr) (n : Nat), decode normal bs = .instr i n →
    i.wf = true ∧ n ≤ bs.length ∧ bs.take n ∈ encodings normal i

/-- With no signal presented, a step runs the instruction the bytes at PC decode to, with PC past it, and then
delivers a pending trap. -/
def Obligations.StepRunsTheDecodedInstruction : Prop :=
  ∀ (s : State) (i : Instr) (n : Nat), s.status = .running → s.signals = [] →
    decode s.normalmap s.window = .instr i n →
    step s = afterExec (exec i (s.setPc (s.pcI + n)))

/-- Running off the end of the program text is the fatal EPC, whether no byte of an instruction is left or some are:
then PC is past the bytes there were. -/
def Obligations.RunningOffTheTextStops : Prop :=
  (∀ s : State, s.wf = true → s.status = .running → s.signals = [] → s.pcI = s.pdI →
     step s = .next (s.abort EPC)) ∧
  (∀ s : State, s.wf = true → s.status = .running → s.signals = [] → decode s.normalmap s.window = .truncated →
     step s = .next ((s.setPc (s.pcI + (s.window.length : Int))).abort EPC) ∧
     s.pcI + (s.window.length : Int) = s.pdI)

/-! ## Loads and stores -/

/-- LOC, LNC, LAL, LAE and the three LOR push one word; LEX pushes the frame address `k` static links away. -/
def Obligations.ConstantAndRegisterPushes : Prop :=
  (∀ (s : State) (k : Int), s.wf = true → s.room 2 = true →
     completes (.loc k) s (s.pushed k) (s.spI + 2) 2 ∧
     completes (.lnc k) s (s.pushed (-k)) (s.spI + 2) 2 ∧
     (isX k = true → completes (.lal k) s (s.pushed (s.lbI + k)) (s.spI + 2) 2) ∧
     (isX k = true → completes (.lae k) s (s.pushed k) (s.spI + 2) 2) ∧
     completes (.lor 0) s (s.pushed s.lbI) (s.spI + 2) 2 ∧
     completes (.lor 1) s (s.pushed s.spI) (s.spI + 2) 2 ∧
     completes (.lor 2) s (s.pushed s.hpI) (s.spI + 2) 2) ∧
  (∀ (s : State) (k : Int), s.wf = true → isN k = true → s.room 2 = true → s.oklinks k.toNat s.lbI = true →
     completes (.lex k) s (s.pushed (s.linkAt k.toNat s.lbI)) (s.spI + 2) 2)

/-- LOL, LOE, LOP and LOF push the word at the address their rule gives; LDL, LDE and LDF two consecutive words, the
lower one first. -/
def Obligations.WordLoads : Prop :=
  (∀ (s : State) (k : Int), s.wf = true →
     (isX k = true → s.room 2 = true → s.okword (s.lbI + k) = true →
       completes (.lol k) s (s.pushed (s16 (s.word (s.lbI + k)))) (s.spI + 2) 2) ∧
     (isX k = true → s.room 2 = true → s.okword k = true →
       completes (.loe k) s (s.pushed (s16 (s.word k))) (s.spI + 2) 2) ∧
     (isX k = true → s.room 2 = true → s.okword (s.lbI + k) = true → s.okword (adr (s.word (s.lbI + k))) = true →
       completes (.lop k) s (s.pushed (s16 (s.word (adr (s.word (s.lbI + k)))))) (s.spI + 2) 2) ∧
     (s.has 2 = true → (s.drop 2).okword (s.topA 0 + k) = true →
       completes (.lof k) s ((s.drop 2).pushed (s16 (s.word (s.topA 0 + k)))) s.spI 2)) ∧
  (∀ (s : State) (k : Int), s.wf = true →
     (isX k = true → s.room 4 = true → s.okblock (s.lbI + k) 4 = true →
       completes (.ldl k) s (s.pushedAll (s.wordsAt (s.lbI + k) 2)) (s.spI + 2) 4) ∧
     (isX k = true → s.room 4 = true → s.okblock k 4 = true →
       completes (.lde k) s (s.pushedAll (s.wordsAt k 2)) (s.spI + 2) 4) ∧
     (s.has 2 = true → s.room 2 = true → (s.drop 2).okblock (s.topA 0 + k) 4 = true →
       completes (.ldf k) s ((s.drop 2).pushedAll (s.wordsAt (s.topA 0 + k) 2)) s.spI 4))

/-- STL, STE, STP and STF store the popped word, SDL, SDE and SDF two of them, the top one at the higher address; the
target is admitted with the SP after the pops. -/
def Obligations.WordStores : Prop :=
  (∀ (s : State) (k : Int), s.wf = true → s.has 2 = true →
     (isX k = true → (s.drop 2).okword (s.lbI + k) = true →
       completes (.stl k) s ((s.drop 2).putWord (s.lbI + k) (s.top 0)) (s.lbI + k) 2) ∧
     (isX k = true → (s.drop 2).okword k = true →
       completes (.ste k) s ((s.drop 2).putWord k (s.top 0)) k 2) ∧
     (isX k = true → s.okword (s.lbI + k) = true → (s.drop 2).okword (adr (s.word (s.lbI + k))) = true →
       completes (.stp k) s ((s.drop 2).putWord (adr (s.word (s.lbI + k))) (s.top 0))
         (adr (s.word (s.lbI + k))) 2) ∧
     (s.has 4 = true → (s.drop 4).okword (s.topA 0 + k) = true →
       completes (.stf k) s ((s.drop 4).putWord (s.topA 0 + k) (s.top 1)) (s.topA 0 + k) 2)) ∧
  (∀ (s : State) (k : Int), s.wf = true → s.has 4 = true →
     (isX k = true → (s.drop 4).okblock (s.lbI + k) 4 = true →
       completes (.sdl k) s ((s.drop 4).storeDown (s.lbI + k) (s.tops 0 2)) (s.lbI + k) 4) ∧
     (isX k = true → (s.drop 4).okblock k 4 = true →
       completes (.sde k) s ((s.drop 4).storeDown k (s.tops 0 2)) k 4) ∧
     (s.has 6 = true → (s.drop 6).okblock (s.topA 0 + k) 4 = true →
       completes (.sdf k) s ((s.drop 6).storeDown (s.topA 0 + k) (s.tops 1 2)) (s.topA 0 + k) 4))

/-- LOI and LOS push an object, STI and STS pop one: one byte, zero-extended or the low byte of its word, or words in
memory order. -/
def Obligations.ObjectMoves : Prop :=
  (∀ (s : State) (k : Int), s.wf = true →
     (loiPre k s = true → completes (.loi k) s (loiPost k s) s.spI (stackSize k)) ∧
     (s.has 2 = true → loiPre (s.topA 0) (s.drop 2) = true →
       completes .los s (loiPost (s.topA 0) (s.drop 2)) (s.spI - 2) (stackSize (s.topA 0)))) ∧
  (∀ (s : State) (k : Int), s.wf = true →
     (stiPre k s = true → completes (.sti k) s (stiPost k s) (s.topA 0) k) ∧
     (s.has 2 = true → stiPre (s.topA 0) (s.drop 2) = true →
       completes .sts s (stiPost (s.topA 0) (s.drop 2)) (s.topA 1) (s.topA 0)))

/-- LAI adds the size to the pointer variable, then pushes the object the old pointer points to; SAI adds it, then
pops an object to where the old pointer points. -/
def Obligations.AutoIncrementMoves : Prop :=
  ∀ (s u : State) (k b : Int), s.wf = true → isY k = true → s.has 2 = true →
    (s.drop 2).okword (s.topA 0) = true → b = adr (s.word (s.topA 0)) →
    u = (s.drop 2).putWord (s.topA 0) (b + k) →
    (u.okobject b k = true → u.room (stackSize k) = true →
      exec (.lai k) s = .next (u.pushedAll (u.objectAt b k)) ∧ sameRest s (u.pushedAll (u.objectAt b k)) ∧
      ∀ x : Int, 0 ≤ x → (x < s.topA 0 ∨ s.topA 0 + 2 ≤ x) → (x < s.spI ∨ s.spI + stackSize k ≤ x) →
        (u.pushedAll (u.objectAt b k)).byte x = s.byte x) ∧
    (u.okpop 0 b k = true →
      exec (.sai k) s = .next (u.popObject 0 b k) ∧ sameRest s (u.popObject 0 b k) ∧
      ∀ x : Int, 0 ≤ x → (x < s.topA 0 ∨ s.topA 0 + 2 ≤ x) → (x < b ∨ b + k ≤ x) →
        (u.popObject 0 b k).byte x = s.byte x)

/-- An operand outside the class of its instruction is an illegal instruction, before anything else is done: classes x, y,
p, z and n (for the procedure numbers of CAL and CAS see CallInstructions); a popped operand likewise, once it is popped. An element size that is negative, or odd and not 1, is the fatal
EODDZ of the subscript calculation; an element size of 0 is the EODDZ of the move that LAR, LAS, SAR and SAS make. -/
def Obligations.RejectedOperands : Prop :=
  (∀ (s : State) (k : Int) (i : Instr), s.wf = true →
    (isX k = false ∧ (i = .lol k ∨ i = .loe k ∨ i = .lop k ∨ i = .lal k ∨ i = .lae k ∨ i = .ldl k ∨ i = .lde k ∨
       i = .stl k ∨ i = .ste k ∨ i = .stp k ∨ i = .sdl k ∨ i = .sde k ∨ i = .inl k ∨ i = .ine k ∨ i = .del k ∨
       i = .dee k ∨ i = .zrl k ∨ i = .zre k ∨ i = .lar k ∨ i = .sar k ∨ i = .aar k ∨ i = .ret k ∨ i = .blm k ∨
       i = .rck k) ∨
     isY k = false ∧ (i = .lai k ∨ i = .loi k ∨ i = .sai k ∨ i = .sti k) ∨
     isP k = false ∧ (i = .and k ∨ i = .ior k ∨ i = .xor k ∨ i = .com k ∨ i = .inn k ∨ i = .xset k ∨ i = .cmu k ∨
       i = .dup k) ∨
     isZ k = false ∧ i = .beg k ∨
     isN k = false ∧ (i = .lex k ∨ i = .mrk k ∨ i = .mrx k ∨ i = .lin k ∨ i = .brf k ∨ i = .brb k)) →
    exec i s = .next (s.abort EILLINS)) ∧
  (∀ (s : State) (i : Instr), s.wf = true → s.has 2 = true →
    (isX (s.topA 0) = false ∧ (i = .las ∨ i = .sas ∨ i = .aas ∨ i = .rcs) ∨
     isX (s.top 0) = false ∧ (i = .res ∨ i = .bls) ∨
     isY (s.topA 0) = false ∧ (i = .los ∨ i = .sts) ∨
     isP (s.top 0) = false ∧ (i = .ans ∨ i = .ios ∨ i = .xos ∨ i = .cos ∨ i = .ins ∨ i = .ses ∨ i = .cms ∨ i = .dus) ∨
     isZ (s.top 0) = false ∧ i = .bes ∨
     isN (s.top 0) = false ∧ (i = .mrs ∨ i = .mxs)) →
    exec i s = .next ((s.drop 2).abort EILLINS)) ∧
  (∀ (s u : State) (x : Int) (i : Instr), s.wf = true → isX x = true →
    (u = s ∧ (i = .aar x ∨ i = .lar x ∨ i = .sar x) ∨
     s.has 2 = true ∧ u = s.drop 2 ∧ x = s.topA 0 ∧ (i = .aas ∨ i = .las ∨ i = .sas)) →
    (u.has 2 = true → (u.drop 2).okblock x 6 = true → u.tolerates (arrayRaises x u) = true →
      (u.arraySize x < 0 ∨ 1 < u.arraySize x ∧ u.arraySize x % 2 = 1) →
      exec i s = .next ((u.drop 2).abort EODDZ)) ∧
    (arrayPre x u = true → u.arraySize x = 0 → i ≠ .aar x → i ≠ .aas →
      exec i s = .next ((u.drop 4).abort EODDZ)))

/-! ## Integer arithmetic -/

/-- ADD, SUB and MUL: the exact result narrowed to a word; EIUND for the right operand, then for the left one, then
EIOVFL, none of which stops the machine when an error procedure is set. -/
def Obligations.AddSubMulResults : Prop :=
  ∀ (s : State) (i : Instr) (z : Int) (ns : List Byte), s.wf = true → s.has 4 = true →
    (i = .add ∧ z = s.top 1 + s.top 0 ∨ i = .sub ∧ z = s.top 1 - s.top 0 ∨ i = .mul ∧ z = s.top 1 * s.top 0) →
    ns = raisedIf (decide (s.top 0 = -32768)) EIUND ++ raisedIf (decide (s.top 1 = -32768)) EIUND
      ++ raisedIf (decide (32768 ≤ z.natAbs)) EIOVFL →
    s.tolerates ns = true →
    completes i s (((s.drop 4).raiseAll ns).pushed z) (s.spI - 2) 2

/-- With default error handling the first condition an ADD meets stops the machine, in the order: right operand
undefined, left operand undefined, overflow. -/
def Obligations.AddStopsWithoutErrorProcedure : Prop :=
  ∀ s : State, s.wf = true → s.has 4 = true → s.defaultHandling = true →
    (s.top 0 = -32768 → exec .add s = .next ((s.drop 2).abort EIUND)) ∧
    (s.top 0 ≠ -32768 → s.top 1 = -32768 → exec .add s = .next ((s.drop 4).abort EIUND)) ∧
    (s.top 0 ≠ -32768 → s.top 1 ≠ -32768 → 32768 ≤ (s.top 1 + s.top 0).natAbs →
      exec .add s = .next ((s.drop 4).abort EIOVFL))

/-- DIV and MOD: the quotient truncated toward zero (general knowledge by the spec's own mark, log entry 18) and its
remainder; by zero EIDIVZ is raised and nothing pushed. DIV raises no EIOVFL, not even for -32768 by -1, whatever row 8 of
R411 lists (R239, log entry 25). -/
def Obligations.DivideAndRemainder : Prop :=
  ∀ (s : State) (ns : List Byte), s.wf = true → s.has 4 = true →
    ns = raisedIf (decide (s.top 0 = -32768)) EIUND ++ raisedIf (decide (s.top 1 = -32768)) EIUND
      ++ raisedIf (decide (s.top 0 = 0)) EIDIVZ →
    s.tolerates ns = true →
    (s.top 0 ≠ 0 →
      completes .div s (((s.drop 4).raiseAll ns).pushed (Int.tdiv (s.top 1) (s.top 0))) (s.spI - 2) 2 ∧
      completes .mod s (((s.drop 4).raiseAll ns).pushed (Int.tmod (s.top 1) (s.top 0))) (s.spI - 2) 2) ∧
    (s.top 0 = 0 →
      completes .div s ((s.drop 4).raiseAll ns) 0 0 ∧ completes .mod s ((s.drop 4).raiseAll ns) 0 0)

/-- NEG, INC and DEC replace the top of the stack. -/
def Obligations.UnaryArithmetic : Prop :=
  ∀ (s : State) (i : Instr) (z : Int) (ns : List Byte), s.wf = true → s.has 2 = true →
    (i = .neg ∧ z = -(s.top 0) ∧ ns = raisedIf (decide (s.top 0 = -32768)) EIUND ∨
     i = .inc ∧ z = s.top 0 + 1 ∧
       ns = raisedIf (decide (s.top 0 = -32768)) EIUND ++ raisedIf (decide (s.top 0 = 32767)) EIOVFL ∨
     i = .dec ∧ z = s.top 0 - 1 ∧
       ns = raisedIf (decide (s.top 0 = -32768)) EIUND ++ raisedIf (decide (s.top 0 ≤ -32767)) EIOVFL) →
    s.tolerates ns = true →
    completes i s (((s.drop 2).raiseAll ns).pushed z) s.spI 2

/-- SHR by 0..15 halves toward minus infinity; SHL by 0..15 doubles as long as the magnitude is below 16384 and raises
EIOVFL at every further step, the word keeping the last value that could be doubled. ROL and
ROR rotate the sixteen bits. -/
def Obligations.ShiftsAndRotatesByLegalCounts : Prop :=
  (∀ (s : State) (j : Nat) (und ovf : List Byte), s.wf = true → s.has 4 = true →
     0 ≤ s.top 0 → s.top 0 ≤ 15 →
     und = raisedIf (decide (s.top 1 = -32768)) EIUND → s.tolerates und = true →
     completes .shr s (((s.drop 4).raiseAll und).pushed (s.top 1 / 2 ^ (s.top 0).toNat)) (s.spI - 2) 2 ∧
     ((j : Int) ≤ s.top 0 → ((j : Int) = s.top 0 ∨ 16384 ≤ (s.top 1 * 2 ^ j).natAbs) →
       (∀ m : Nat, m < j → (s.top 1 * 2 ^ m).natAbs < 16384) →
       ovf = List.replicate ((s.top 0).toNat - j) EIOVFL → s.tolerates (und ++ ovf) = true →
       completes .shl s (((s.drop 4).raiseAll (und ++ ovf)).pushed (s.top 1 * 2 ^ j)) (s.spI - 2) 2)) ∧
  (∀ s : State, s.wf = true → s.has 4 = true → 0 ≤ s.top 0 → s.top 0 ≤ 15 →
     completes .rol s ((s.drop 4).pushed (adr ((s.word (s.spI - 2)).rotateLeft (s.top 0).toNat))) (s.spI - 2) 2 ∧
     completes .ror s ((s.drop 4).pushed (adr ((s.word (s.spI - 2)).rotateRight (s.top 0).toNat))) (s.spI - 2) 2)

/-- A shift or rotate by a count outside 0..15 leaves an unconstrained word, whatever it is (the model's free value,
log entry 4), and does everything else the same. -/
def Obligations.ShiftsByOtherCountsLeaveAFreeWord : Prop :=
  ∀ (s : State) (und : List Byte), s.wf = true → s.has 4 = true → (s.top 0 < 0 ∨ 15 < s.top 0) →
    und = raisedIf (decide (s.top 0 = -32768)) EIUND ++ raisedIf (decide (s.top 1 = -32768)) EIUND →
    (s.tolerates und = true →
      (∃ w : Word, completes .shl s
        ({ (s.drop 4).raiseAll und with freeCount := s.freeCount + 1 }.pushed (adr w)) (s.spI - 2) 2) ∧
      (∃ w : Word, completes .shr s
        ({ (s.drop 4).raiseAll und with freeCount := s.freeCount + 1 }.pushed (adr w)) (s.spI - 2) 2)) ∧
    (∃ w : Word, completes .rol s ({ s.drop 4 with freeCount := s.freeCount + 1 }.pushed (adr w)) (s.spI - 2) 2) ∧
    (∃ w : Word, completes .ror s ({ s.drop 4 with freeCount := s.freeCount + 1 }.pushed (adr w)) (s.spI - 2) 2)

/-- ADI and PAD add to a pointer modulo 65536; PSB pushes the difference of two pointers and raises EIOVFL when it
is no integer. -/
def Obligations.PointerArithmetic : Prop :=
  ∀ (s : State) (k : Int) (ns : List Byte), s.wf = true → s.has 2 = true →
    completes (.adi k) s ((s.drop 2).pushed (s.topA 0 + k)) s.spI 2 ∧
    (s.has 4 = true → completes .pad s ((s.drop 4).pushed (s.topA 1 + s.top 0)) (s.spI - 2) 2) ∧
    (s.has 4 = true → ns = raisedIf (decide (32768 ≤ (s.topA 1 - s.topA 0).natAbs)) EIOVFL →
      s.tolerates ns = true →
      completes .psb s (((s.drop 4).raiseAll ns).pushed (s.topA 1 - s.topA 0)) (s.spI - 2) 2)

/-- INL, INE, DEL, DEE, ZRL and ZRE change a word in place and leave the stack pointer. -/
def Obligations.InPlaceIncrementsAndZeros : Prop :=
  ∀ (s : State) (k a d : Int) (i : Instr) (v : Int) (ns : List Byte), s.wf = true → isX k = true →
    (i = .inl k ∧ a = s.lbI + k ∧ d = 1 ∨ i = .ine k ∧ a = k ∧ d = 1 ∨
     i = .del k ∧ a = s.lbI + k ∧ d = -1 ∨ i = .dee k ∧ a = k ∧ d = -1) →
    v = s16 (s.word a) →
    ns = raisedIf (decide (v = -32768)) EIUND ++ raisedIf (decide (32768 ≤ (v + d).natAbs)) EIOVFL →
    s.okword a = true →
    (s.tolerates ns = true → completes i s ((s.raiseAll ns).putWord a (v + d)) a 2) ∧
    (a = s.lbI + k → completes (.zrl k) s (s.putWord a 0) a 2) ∧
    (a = k → completes (.zre k) s (s.putWord a 0) a 2)

/-! ## Doubles, reals, conversions: for whatever formats -/

/-- For whatever double format and double arithmetic (log entries 5 and 6): DAD, DSB and DMU push what the arithmetic
makes of the exact result; EDUND for each undefined operand, and EDOVFL where the arithmetic reports an exact result
outside the double range. DDV and DMD truncate toward zero (log entry 18); by zero EIDIVZ is raised and nothing pushed. -/
def Obligations.DoubleArithmetic : Prop :=
  (∀ (s : State) (i : Instr) (op : DoubleOp) (ds dt d : Int) (ns : List Byte), s.wf = true → s.has 8 = true →
     ds = s.topD 2 → dt = s.topD 0 →
     (i = .dad ∧ op = .dad ∧ d = ds + dt ∨ i = .dsb ∧ op = .dsb ∧ d = ds - dt ∨ i = .dmu ∧ op = .dmu ∧ d = ds * dt) →
     ns = s.topDRaises 0 ++ s.topDRaises 2 ++
       raisedIf (decide (2147483647 < d.natAbs) && Config.dblReport op ds dt) EDOVFL →
     s.tolerates ns = true →
     completes i s (((s.drop 8).raiseAll ns).pushedD (Config.dblResult op ds dt d)) (s.spI - 6) 4) ∧
  (∀ (s : State) (ns : List Byte), s.wf = true → s.has 8 = true →
     ns = s.topDRaises 0 ++ s.topDRaises 2 ++ raisedIf (decide (s.topD 0 = 0)) EIDIVZ →
     s.tolerates ns = true →
     (s.topD 0 ≠ 0 →
       completes .ddv s (((s.drop 8).raiseAll ns).pushedD (Int.tdiv (s.topD 2) (s.topD 0))) (s.spI - 6) 4 ∧
       completes .dmd s (((s.drop 8).raiseAll ns).pushedD (Int.tmod (s.topD 2) (s.topD 0))) (s.spI - 6) 4) ∧
     (s.topD 0 = 0 →
       completes .ddv s ((s.drop 8).raiseAll ns) 0 0 ∧ completes .dmd s ((s.drop 8).raiseAll ns) 0 0))

/-- For whatever real format (log entries 7 to 9): FAD, FSB, FMU and FDV: what the parameter arithmetic makes of the exact result, with the conditions it reports; FDV by
0.0 raises EFDIVZ and still pushes two words of the parameter arithmetic. -/
def Obligations.FloatingArithmetic : Prop :=
  (∀ (s : State) (i : Instr) (op : FloatOp) (r : Rat) (ns : List Byte), s.wf = true → s.has 8 = true →
     (i = .fad ∧ op = .fad ∧ r = s.topR 2 + s.topR 0 ∨ i = .fsb ∧ op = .fsb ∧ r = s.topR 2 - s.topR 0 ∨
      i = .fmu ∧ op = .fmu ∧ r = s.topR 2 * s.topR 0 ∨
      i = .fdv ∧ op = .fdv ∧ r = s.topR 2 / s.topR 0 ∧ s.topR 0 ≠ 0) →
     ns = s.topRRaises 0 ++ s.topRRaises 2 ++ (Config.fltReport op (s.topR 2) (s.topR 0)).map floatTrapNumber →
     s.tolerates ns = true →
     completes i s (((s.drop 8).raiseAll ns).pushedR (Config.fltResult op (s.topR 2) (s.topR 0) r)) (s.spI - 6) 4) ∧
  (∀ (s : State) (ns : List Byte), s.wf = true → s.has 8 = true → s.defaultHandling = false →
     ns = s.topRRaises 0 ++ s.topRRaises 2 ++ [EFDIVZ] → s.topR 0 = 0 →
     ∃ w0 w1 : Word, completes .fdv s (((s.drop 8).raiseAll ns).pushedAll [adr w0, adr w1]) (s.spI - 6) 4)

/-- FIF pushes the fraction and then the integer part, truncated toward zero, of the product; FEF pushes a mantissa
and an exponent that make up the real again, the mantissa between one half and one in magnitude unless it is zero.
The format and what is reported are parameters (log entries 7 to 9). -/
def Obligations.FloatingSplits : Prop :=
  ∀ (s : State) (p : Rat) (ns : List Byte), s.wf = true →
    (s.has 8 = true → p = Config.fltResult .fif (s.topR 2) (s.topR 0) (s.topR 2 * s.topR 0) →
      ns = s.topRRaises 0 ++ s.topRRaises 2 ++ (Config.fltReport .fif (s.topR 2) (s.topR 0)).map floatTrapNumber →
      s.tolerates ns = true →
      ∃ n : Int, completes .fif s ((((s.drop 8).raiseAll ns).pushedR (p - n)).pushedR n) (s.spI - 6) 8 ∧
        |(n : Rat)| ≤ |p| ∧ |p - n| < 1 ∧ 0 ≤ p * (p - n)) ∧
    (s.has 4 = true → s.room 2 = true →
      ns = s.topRRaises 0 ++ raisedIf (Config.fefReport (s.topR 0)) EFPP → s.tolerates ns = true →
      ∃ (x : Rat) (e : Int), completes .fef s ((((s.drop 4).raiseAll ns).pushedR x).pushed e) (s.spI - 2) 6 ∧
        s.topR 0 = x * (2 : Rat) ^ e ∧ (s.topR 0 = 0 → x = 0 ∧ e = 0) ∧
        (s.topR 0 ≠ 0 → 1 / 2 ≤ |x| ∧ |x| < 1))

/-- For whatever formats (log entries 5 to 8): CID, CIF and CDF convert without a check of their own. CDI and CFI push an
integer, or raise ECDI or ECFI and push nothing; CFD raises ECFD and pushes four bytes in either case, unconstrained ones
after ECFD (log entry 10). CFI and CFD round to the nearest integer, halves away from zero (log entry 18). -/
def Obligations.Conversions : Prop :=
  (∀ (s : State) (ns : List Byte), s.wf = true →
     (s.has 2 = true → s.room 2 = true →
       completes .cid s ((s.drop 2).pushedD (s.top 0)) s.spI 4 ∧
       completes .cif s ((s.drop 2).pushedR (s.top 0 : Rat)) s.spI 4) ∧
     (s.has 4 = true → ns = s.topDRaises 0 → s.tolerates ns = true →
       completes .cdf s (((s.drop 4).raiseAll ns).pushedR (s.topD 0 : Rat)) (s.spI - 2) 4)) ∧
  (∀ (s : State) (ns : List Byte), s.wf = true → s.has 4 = true →
     (ns = s.topDRaises 0 ++ raisedIf (decide (32767 < (s.topD 0).natAbs)) ECDI → s.tolerates ns = true →
       ((s.topD 0).natAbs ≤ 32767 → completes .cdi s (((s.drop 4).raiseAll ns).pushed (s.topD 0)) (s.spI - 2) 2) ∧
       (32767 < (s.topD 0).natAbs → completes .cdi s ((s.drop 4).raiseAll ns) 0 0)) ∧
     (ns = s.topRRaises 0 ++ raisedIf (decide (65533 / 2 < |s.topR 0|)) ECFI → s.tolerates ns = true →
       (|s.topR 0| ≤ 65533 / 2 →
         ∃ n : Int, completes .cfi s (((s.drop 4).raiseAll ns).pushed n) (s.spI - 2) 2 ∧
           |s.topR 0 - n| ≤ 1 / 2 ∧ (|s.topR 0 - n| = 1 / 2 → |s.topR 0| ≤ |(n : Rat)|)) ∧
       (65533 / 2 < |s.topR 0| → completes .cfi s ((s.drop 4).raiseAll ns) 0 0)) ∧
     (ns = s.topRRaises 0 ++ raisedIf (decide (4294967293 / 2 < |s.topR 0|)) ECFD → s.tolerates ns = true →
       (|s.topR 0| ≤ 4294967293 / 2 →
         ∃ n : Int, completes .cfd s (((s.drop 4).raiseAll ns).pushedD n) (s.spI - 2) 4 ∧
           |s.topR 0 - n| ≤ 1 / 2 ∧ (|s.topR 0 - n| = 1 / 2 → |s.topR 0| ≤ |(n : Rat)|)) ∧
       (4294967293 / 2 < |s.topR 0| →
         ∃ w0 w1 : Word, completes .cfd s
           ({ (s.drop 4).raiseAll ns with freeCount := s.freeCount + 2 }.pushedAll [adr w0, adr w1]) (s.spI - 2) 4)))

/-! ## Logical, sets, arrays, compares -/

/-- AND, IOR, XOR and their stacked forms combine two groups of words, word by word; COM and COS complement the top words
in place. -/
def Obligations.LogicalGroups : Prop :=
  (∀ (s : State) (k : Int), s.wf = true →
     (logicalPre k s = true →
       completes (.and k) s (logicalPost (· &&& ·) k s) (s.spI - 2 * k + 2) k ∧
       completes (.ior k) s (logicalPost (· ||| ·) k s) (s.spI - 2 * k + 2) k ∧
       completes (.xor k) s (logicalPost (· ^^^ ·) k s) (s.spI - 2 * k + 2) k) ∧
     (s.has 2 = true → logicalPre (s.top 0) (s.drop 2) = true →
       completes .ans s (logicalPost (· &&& ·) (s.top 0) (s.drop 2)) (s.spI - 2 * s.top 0) (s.top 0) ∧
       completes .ios s (logicalPost (· ||| ·) (s.top 0) (s.drop 2)) (s.spI - 2 * s.top 0) (s.top 0) ∧
       completes .xos s (logicalPost (· ^^^ ·) (s.top 0) (s.drop 2)) (s.spI - 2 * s.top 0) (s.top 0))) ∧
  (∀ (s : State) (k : Int), s.wf = true →
     (comPre k s = true → completes (.com k) s (comPost k s) (s.spI - k + 2) k) ∧
     (s.has 2 = true → comPre (s.top 0) (s.drop 2) = true →
       completes .cos s (comPost (s.top 0) (s.drop 2)) (s.spI - s.top 0) (s.top 0)))

/-- INN and INS test an element of a set, SET and SES make a set of one element; an element outside raises ESET and
gives 0 or the empty set. -/
def Obligations.SetInstructions : Prop :=
  ∀ (s : State) (k : Int), s.wf = true →
    (innPre k s = true → completes (.inn k) s (innPost k s) (s.spI - k) 2) ∧
    (s.has 2 = true → innPre (s.top 0) (s.drop 2) = true →
      completes .ins s (innPost (s.top 0) (s.drop 2)) (s.spI - 2 - s.top 0) 2) ∧
    (setPre k s = true → completes (.xset k) s (setPost k s) s.spI k) ∧
    (s.has 2 = true → setPre (s.top 0) (s.drop 2) = true →
      completes .ses s (setPost (s.top 0) (s.drop 2)) (s.spI - 2) (s.top 0))

/-- A set made by SET holds its element and no other, as INN tests it for every element a signed word can name. -/
def Obligations.SetMakesASingleton : Prop :=
  ∀ (s t : State) (k n m : Int), s.wf = true → setPre k s = true → n = s.top 0 → 0 ≤ n → n < 8 * k →
    0 ≤ m → m < 8 * k → m ≤ 32767 → s.room (k + 2) = true → t = (setPost k s).pushed m →
    completes (.inn k) t (innPost k t) (t.spI - k) 2 ∧ (innPost k t).top 0 = ofBool (decide (m = n))

/-- AAR, LAR, SAR and their stacked forms: the subscript of the descriptor gives the element's address; a subscript
out of bounds raises EARRAY and the instruction completes with it. -/
def Obligations.ArrayInstructions : Prop :=
  ∀ (s : State) (x : Int), s.wf = true →
    (arrayPre x s = true → completes (.aar x) s (aarPost x s) (s.spI - 2) 2) ∧
    (larPre x s = true → completes (.lar x) s (larPost x s) (s.spI - 2) (stackSize (s.arraySize x))) ∧
    (sarPre x s = true → completes (.sar x) s (sarPost x s) (arrayAddress x s) (s.arraySize x)) ∧
    (s.has 2 = true → arrayPre (s.topA 0) (s.drop 2) = true →
      completes .aas s (aarPost (s.topA 0) (s.drop 2)) (s.spI - 4) 2) ∧
    (s.has 2 = true → larPre (s.topA 0) (s.drop 2) = true →
      completes .las s (larPost (s.topA 0) (s.drop 2)) (s.spI - 4) (stackSize (s.arraySize (s.topA 0)))) ∧
    (s.has 2 = true → sarPre (s.topA 0) (s.drop 2) = true →
      completes .sas s (sarPost (s.topA 0) (s.drop 2)) (arrayAddress (s.topA 0) (s.drop 2)) (s.arraySize (s.topA 0)))

/-- CMI, CMP, CMD and CMF push exactly -1, 0 or 1 for the left operand below, equal to or above the right one; CMU and CMS
compare two blocks as unsigned words from the highest address down. CMD and CMF: for whatever formats and whatever an
undefined operand counts as (log entries 5 to 8). -/
def Obligations.CompareResults : Prop :=
  (∀ (s : State) (ns : List Byte), s.wf = true → s.has 4 = true →
     completes .cmi s
       ((s.drop 4).pushed (if s.top 1 < s.top 0 then -1 else if s.top 1 = s.top 0 then 0 else 1)) (s.spI - 2) 2 ∧
     completes .cmp s
       ((s.drop 4).pushed (if s.topA 1 < s.topA 0 then -1 else if s.topA 1 = s.topA 0 then 0 else 1)) (s.spI - 2) 2 ∧
     (s.has 8 = true → ns = s.topDRaises 0 ++ s.topDRaises 2 → s.tolerates ns = true →
       completes .cmd s (((s.drop 8).raiseAll ns).pushed
         (if s.topD 2 < s.topD 0 then -1 else if s.topD 2 = s.topD 0 then 0 else 1)) (s.spI - 6) 2) ∧
     (s.has 8 = true → ns = s.topRRaises 0 ++ s.topRRaises 2 → s.tolerates ns = true →
       completes .cmf s (((s.drop 8).raiseAll ns).pushed
         (if s.topR 2 < s.topR 0 then -1 else if s.topR 2 = s.topR 0 then 0 else 1)) (s.spI - 6) 2)) ∧
  (∀ (s : State) (k : Int), s.wf = true →
     (cmuPre k s = true → completes (.cmu k) s (cmuPost k s) (s.spI - 2 * k + 2) 2) ∧
     (s.has 2 = true → cmuPre (s.top 0) (s.drop 2) = true →
       completes .cms s (cmuPost (s.top 0) (s.drop 2)) (s.spI - 2 * s.top 0) 2))

/-- The six test instructions have their primary opcodes and replace the top of the stack by 1 or 0. -/
def Obligations.TestInstructions : Prop :=
  decode true [234#8] = .instr .tlt 1 ∧ decode true [233#8] = .instr .tle 1 ∧ decode true [230#8] = .instr .teq 1 ∧
  decode true [235#8] = .instr .tne 1 ∧ decode true [231#8] = .instr .tge 1 ∧ decode true [232#8] = .instr .tgt 1 ∧
  (∀ (s : State) (i : Instr) (c : Bool), s.wf = true → s.has 2 = true →
     (i = .tlt ∧ c = decide (s.top 0 < 0) ∨ i = .tle ∧ c = decide (s.top 0 ≤ 0) ∨ i = .teq ∧ c = decide (s.top 0 = 0) ∨
      i = .tne ∧ c = decide (s.top 0 ≠ 0) ∨ i = .tge ∧ c = decide (0 ≤ s.top 0) ∨ i = .tgt ∧ c = decide (0 < s.top 0)) →
     completes i s ((s.drop 2).pushed (if c then 1 else 0)) s.spI 2)

/-! ## Control -/

/-- BRF and BRB have their encodings and move PC by the distance; a target outside the text is the fatal EPC, a negative
distance EILLINS. -/
def Obligations.UnconditionalBranches : Prop :=
  (∀ b hi lo : Byte,
    decode true [172#8, b] = .instr (.brf b.toNat) 2 ∧ decode true [0#8, 14#8, hi, lo] = .instr (.brf (hi ++ lo).toInt) 4 ∧
    decode true [171#8, b] = .instr (.brb b.toNat) 2 ∧ decode true [0#8, 15#8, hi, lo] = .instr (.brb (hi ++ lo).toInt) 4) ∧
  (∀ (s : State) (k : Int), s.wf = true →
     (0 ≤ k → s.pcI + k ≤ s.pdI → completes (.brf k) s (s.setPc (s.pcI + k)) 0 0) ∧
     (0 ≤ k → k ≤ s.pcI → completes (.brb k) s (s.setPc (s.pcI - k)) 0 0) ∧
     (0 ≤ k → s.pdI < s.pcI + k → exec (.brf k) s = .next (s.abort EPC)) ∧
     (0 ≤ k → s.pcI < k → exec (.brb k) s = .next (s.abort EPC)) ∧
     (k < 0 → exec (.brf k) s = .next (s.abort EILLINS) ∧ exec (.brb k) s = .next (s.abort EILLINS)))

/-- The twelve conditional branches pop their operands in every case and look at the distance only when the condition
holds. -/
def Obligations.ConditionalBranches : Prop :=
  ∀ (s : State) (k : Int) (i : Instr) (n : Int) (c : Bool), s.wf = true →
    (n = 4 ∧ (i = .blt k ∧ c = decide (s.top 1 < s.top 0) ∨ i = .ble k ∧ c = decide (s.top 1 ≤ s.top 0) ∨
       i = .beq k ∧ c = decide (s.top 1 = s.top 0) ∨ i = .bne k ∧ c = decide (s.top 1 ≠ s.top 0) ∨
       i = .bge k ∧ c = decide (s.top 1 ≥ s.top 0) ∨ i = .bgt k ∧ c = decide (s.top 1 > s.top 0)) ∨
     n = 2 ∧ (i = .zlt k ∧ c = decide (s.top 0 < 0) ∨ i = .zle k ∧ c = decide (s.top 0 ≤ 0) ∨
       i = .zeq k ∧ c = decide (s.top 0 = 0) ∨ i = .zne k ∧ c = decide (s.top 0 ≠ 0) ∨
       i = .zge k ∧ c = decide (s.top 0 ≥ 0) ∨ i = .zgt k ∧ c = decide (s.top 0 > 0))) →
    s.has n = true →
    (c = false → completes i s (s.drop n) 0 0) ∧
    (c = true → 0 ≤ k → s.pcI + k ≤ s.pdI → completes i s ((s.drop n).setPc (s.pcI + k)) 0 0) ∧
    (c = true → 0 ≤ k → s.pdI < s.pcI + k → exec i s = .next ((s.drop n).abort EPC)) ∧
    (c = true → k < 0 → exec i s = .next ((s.drop n).abort EILLINS))

/-- MRK, MRS, MRX and MXS push static link, LB and a zero, and select the context. -/
def Obligations.MarkInstructions : Prop :=
  ∀ (s : State) (k : Int), s.wf = true →
    (mrkPre k s = true →
      exec (.mrk k) s = .next (mrkPost true k s) ∧ exec (.mrx k) s = .next (mrkPost false k s) ∧
      storesOnly s (mrkPost true k s) (s.spI + 2) 6 ∧ storesOnly s (mrkPost false k s) (s.spI + 2) 6) ∧
    (s.has 2 = true → mrkPre (s.top 0) (s.drop 2) = true →
      exec .mrs s = .next (mrkPost true (s.top 0) (s.drop 2)) ∧
      exec .mxs s = .next (mrkPost false (s.top 0) (s.drop 2)) ∧
      storesOnly s (mrkPost true (s.top 0) (s.drop 2)) s.spI 6 ∧
      storesOnly s (mrkPost false (s.top 0) (s.drop 2)) s.spI 6)

/-- CAL and CAS save PC in the mark block and enter the procedure in the normal context. A number out of range is the
fatal EPROC: one not below NPROC, and a negative one by decision D14, for which R355 and R118 say EILLINS (log entry 25).
A descriptor at an odd address is EPTR. -/
def Obligations.CallInstructions : Prop :=
  ∀ (s : State) (k : Int), s.wf = true →
    (calPre k s = true →
      exec (.cal k) s = .next (calPost k s) ∧ storesOnly s (calPost k s) (s.spI - s.procArgs k) 2) ∧
    (s.has 2 = true → calPre (s.top 0) (s.drop 2) = true →
      exec .cas s = .next (calPost (s.top 0) (s.drop 2)) ∧
      storesOnly s (calPost (s.top 0) (s.drop 2)) (s.spI - 2 - s.procArgs (s.top 0)) 2) ∧
    (0 ≤ k → k < s.nproc → s.pdI % 2 = 1 → exec (.cal k) s = .next (s.abort EPTR)) ∧
    (k < 0 ∨ s.nproc ≤ k → exec (.cal k) s = .next (s.abort EPROC)) ∧
    (s.has 2 = true → s.top 0 < 0 ∨ s.nproc ≤ s.top 0 → exec .cas s = .next ((s.drop 2).abort EPROC)) ∧
    (s.has 2 = true → 0 ≤ s.top 0 → s.top 0 < s.nproc → s.pdI % 2 = 1 →
      exec .cas s = .next ((s.drop 2).abort EPTR))

/-- RET and RES restore PC and LB from the mark block and leave the result where the mark block was. -/
def Obligations.ReturnInstructions : Prop :=
  ∀ (s : State) (k : Int), s.wf = true →
    (retPre k s = true →
      exec (.ret k) s = .next (retPost k s) ∧ storesOnly s (retPost k s) (s.lbI - 6) k) ∧
    (s.has 2 = true → retPre (s.top 0) (s.drop 2) = true →
      exec .res s = .next (retPost (s.top 0) (s.drop 2)) ∧
      storesOnly s (retPost (s.top 0) (s.drop 2)) (s.lbI - 6) (s.top 0))

/-- A call that follows MRK 0 directly, then RET 0 at once, is invisible: PC, LB, SP and the context are as they would
be behind the CAL, and nothing below the old top of the stack has changed. -/
def Obligations.CallAndReturnRestore : Prop :=
  ∀ (s t : State) (n : Int), s.wf = true → s.room 6 = true → s.okproc n = true → s.procArgs n = 0 →
    t = calPost n (mrkPost true 0 s) →
    exec (.cal n) (mrkPost true 0 s) = .next t ∧
    exec (.ret 0) t = .next (retPost 0 t) ∧
    (retPost 0 t).pc = s.pc ∧ (retPost 0 t).lb = s.lb ∧ (retPost 0 t).sp = s.sp ∧ (retPost 0 t).normalmap = true ∧
    storesOnly s (retPost 0 t) (s.spI + 2) 6

/-! ## Miscellaneous -/

/-- CSA indexes its table; an offset of -1 is replaced by the default, and -1 again is the fatal ECASE. CSB takes the first
entry whose case value is the index, or the default when there is none, as for a negative number of entries; an offset of
-1 is ECASE, also that of a matching entry when the default is another one, whatever row 4 of R411 asks for (R371, log
entry 25). A target outside the text is EPC. -/
def Obligations.CaseJumps : Prop :=
  (∀ (s : State) (c t o d : Int), s.wf = true → s.has 4 = true → c = s.topA 0 →
     (s.drop 4).okblock c 8 = true → s.okproc (s16 (s.word c)) = true →
     t = s.top 1 - s16 (s.word (c + 4)) →
     (0 ≤ t ∧ t ≤ s16 (s.word (c + 6)) → (s.drop 4).okword (c + 8 + 2 * t) = true) →
     o = (if 0 ≤ t ∧ t ≤ s16 (s.word (c + 6)) then s16 (s.word (c + 8 + 2 * t)) else -1) →
     d = (if o = -1 then s16 (s.word (c + 2)) else o) →
     (d = -1 → exec .csa s = .next ((s.drop 4).abort ECASE)) ∧
     (d ≠ -1 → 0 ≤ s.procBaseOf (s16 (s.word c)) + d → s.procBaseOf (s16 (s.word c)) + d ≤ s.pdI →
       completes .csa s ((s.drop 4).setPc (s.procBaseOf (s16 (s.word c)) + d)) 0 0) ∧
     (d ≠ -1 → (s.procBaseOf (s16 (s.word c)) + d < 0 ∨ s.pdI < s.procBaseOf (s16 (s.word c)) + d) →
       exec .csa s = .next ((s.drop 4).abort EPC))) ∧
  (∀ (s : State) (c n : Int) (found : Option Nat) (d : Int), s.wf = true → s.has 4 = true → c = s.topA 0 →
     n = s16 (s.word (c + 4)) → (s.drop 4).okblock c (6 + 4 * (n.toNat : Int)) = true →
     s.okproc (s16 (s.word c)) = true →
     found = (List.range n.toNat).find? (fun (j : Nat) => decide (s16 (s.word (c + 6 + 4 * (j : Int))) = s.top 1)) →
     d = (match found with
       | some j => s16 (s.word (c + 8 + 4 * (j : Int)))
       | none => s16 (s.word (c + 2))) →
     (d = -1 → exec .csb s = .next ((s.drop 4).abort ECASE)) ∧
     (d ≠ -1 → 0 ≤ s.procBaseOf (s16 (s.word c)) + d → s.procBaseOf (s16 (s.word c)) + d ≤ s.pdI →
       completes .csb s ((s.drop 4).setPc (s.procBaseOf (s16 (s.word c)) + d)) 0 0) ∧
     (d ≠ -1 → (s.procBaseOf (s16 (s.word c)) + d < 0 ∨ s.pdI < s.procBaseOf (s16 (s.word c)) + d) →
       exec .csb s = .next ((s.drop 4).abort EPC)))

/-- BEG and BES reserve words of the undefined pattern, or remove words; BLM and BLS copy a block; DUP and DUS repeat the
top words; EXG exchanges two. -/
def Obligations.FrameAndBlockInstructions : Prop :=
  (∀ (s : State) (k : Int), s.wf = true →
     (begPre k s = true → completes (.beg k) s (begPost k s) (s.spI + 2) k) ∧
     (s.has 2 = true → begPre (s.top 0) (s.drop 2) = true →
       completes .bes s (begPost (s.top 0) (s.drop 2)) s.spI (s.top 0))) ∧
  (∀ (s : State) (k : Int), s.wf = true →
     (blmPre k s = true → completes (.blm k) s (blmPost k s) (s.topA 0) k) ∧
     (s.has 2 = true → blmPre (s.top 0) (s.drop 2) = true →
       completes .bls s (blmPost (s.top 0) (s.drop 2)) (s.topA 1) (s.top 0))) ∧
  (∀ (s : State) (k : Int), s.wf = true →
     (dupPre k s = true → completes (.dup k) s (dupPost k s) (s.spI + 2) k) ∧
     (s.has 2 = true → dupPre (s.top 0) (s.drop 2) = true →
       completes .dus s (dupPost (s.top 0) (s.drop 2)) s.spI (s.top 0)) ∧
     (s.has 4 = true → completes .exg s ((s.drop 4).pushedAll [s.top 0, s.top 1]) (s.spI - 2) 4))

/-- HLT stops the machine with the popped word as exit status; NOP does nothing. That the halted machine takes no further
step is the model's reading of R32 (log entry 16). -/
def Obligations.HaltAndNop : Prop :=
  decode true [0#8, 0#8] = .instr .hlt 2 ∧ decode true [0#8, 89#8] = .instr .nop 2 ∧
  ∀ s : State, s.wf = true →
    completes .nop s s 0 0 ∧
    (s.has 2 = true →
      exec .hlt s = .next ((s.drop 2).stopped (.halted (s.word s.spI))) ∧
      storesNothing s ((s.drop 2).stopped (.halted (s.word s.spI))) ∧
      ∀ u, step ((s.drop 2).stopped (.halted (s.word s.spI))) ≠ .next u)

/-- LIN and LNI set the line number word and raise ELIN when the number is negative or above NLINE, which is
read as a signed word (log entry 19). LNI raises neither EIUND nor EIOVFL, whatever rows 8 and 14 of R411 list (R377, log
entry 25). RCK and RCS compare the
top of the stack with two bounds and leave it. -/
def Obligations.LineNumbersAndRangeChecks : Prop :=
  (∀ (s : State) (k v : Int) (ns : List Byte), s.wf = true → 0 ≤ s.spI →
     ns = raisedIf (decide (v < 0) || decide (s.nline < v)) ELIN → s.tolerates ns = true →
     (0 ≤ k → v = k → completes (.lin k) s ((s.raiseAll ns).putWord 0 k) 0 2) ∧
     (v = s16 (s.word 0) + 1 → completes .lni s ((s.raiseAll ns).putWord 0 v) 0 2)) ∧
  (∀ (s : State) (k : Int), s.wf = true →
     (rckPre k s = true → completes (.rck k) s (s.raiseAll (rckRaises k s)) 0 0) ∧
     (s.has 2 = true → rckPre (s.topA 0) (s.drop 2) = true →
       completes .rcs s ((s.drop 2).raiseAll (rckRaises (s.topA 0) (s.drop 2))) 0 0))

/-- STR sets LB, SP or HP to a value the register admits; the three checks stop the machine otherwise, and any other
register number is an illegal instruction for LOR and STR. -/
def Obligations.StoreRegister : Prop :=
  ∀ (s : State) (k : Int), s.wf = true → s.has 2 = true →
    (s.topA 0 % 2 = 0 → s.topA 0 ≤ s.spI →
      exec (.str 0) s = .next ((s.drop 2).setLb (s.topA 0)) ∧ storesNothing s ((s.drop 2).setLb (s.topA 0))) ∧
    (s.topA 0 % 2 = 0 → s.lbI - 2 ≤ s.topA 0 → s.topA 0 < s.hpI →
      exec (.str 1) s = .next (s.setSp (s.topA 0)) ∧ storesNothing s (s.setSp (s.topA 0))) ∧
    (s.topA 0 % 2 = 0 → s.spI - 2 < s.topA 0 → s.topA 0 ≤ s.maxdata + 1 →
      exec (.str 2) s = .next ((s.drop 2).setHp (s.topA 0)) ∧ storesNothing s ((s.drop 2).setHp (s.topA 0))) ∧
    ((s.topA 0 % 2 = 1 ∨ s.spI < s.topA 0) → exec (.str 0) s = .next ((s.drop 2).abort ESTACK)) ∧
    ((s.topA 0 % 2 = 1 ∨ s.topA 0 < s.lbI - 2 ∨ s.hpI ≤ s.topA 0) →
      exec (.str 1) s = .next ((s.drop 2).abort ESTACK)) ∧
    ((s.topA 0 % 2 = 1 ∨ s.topA 0 ≤ s.spI - 2 ∨ s.maxdata + 1 < s.topA 0) →
      exec (.str 2) s = .next ((s.drop 2).abort EHEAP)) ∧
    (k < 0 ∨ 2 < k → exec (.str k) s = .next (s.abort EILLINS) ∧ exec (.lor k) s = .next (s.abort EILLINS))

/-- SIG exchanges the error procedure with the pair on the stack. -/
def Obligations.ErrorProcedureExchange : Prop :=
  ∀ (s t : State), s.wf = true → s.has 4 = true →
    t = { (s.drop 4).pushedAll [adr s.uerrorlb, adr s.uerrorproc] with
          uerrorproc := s.word s.spI, uerrorlb := s.word (s.spI - 2) } →
    exec .sig s = .next t ∧ storesOnly s t (s.spI - 2) 4 ∧
    (∀ u, exec .sig t = .next u → u = s)

/-- The unassigned escaped opcodes are two-byte instructions that stop the machine with PC past both bytes. -/
def Obligations.IllegalEncodings : Prop :=
  ∀ (s : State) (op : Byte), s.wf = true → unassigned op = true →
    decode true [0#8, op] = .instr (.illegal op) 2 ∧
    exec (.illegal op) s = .next (s.abort EILLINS) ∧
    (s.status = .running → s.signals = [] → s.pcI + 2 ≤ s.pdI → s.code.read s.pc.toNat = 0#8 →
      s.code.read (s.pc.toNat + 1) = op → step s = .next ((s.setPc (s.pcI + 2)).abort EILLINS))

/-- An escape byte executed on its own (the model's reading of R103, log entry 23) fetches the next byte and runs the instruction of the secondary table, as NOP; at the
end of the text that fetch is the fatal EPC. LSA is an illegal instruction whatever its operand. -/
def Obligations.EscapeByteAndLsa : Prop :=
  (∀ (s : State) (i : Instr) (n : Nat), s.wf = true → s.pcI < s.pdI →
     decode true (0#8 :: s.window) = .instr i n → n ≤ s.window.length + 1 →
     exec .escape s = exec i (s.setPc (s.pcI + (n - 1 : Nat)))) ∧
  (∀ s : State, s.wf = true →
    (s.pcI < s.pdI → s.code.read s.pc.toNat = 89#8 → exec .escape s = .next (s.setPc (s.pcI + 1))) ∧
    (s.pcI = s.pdI → exec .escape s = .next (s.abort EPC)) ∧
    ∀ k : Int, exec (.lsa k) s = .next (s.abort EILLINS))

/-! ## Monitor calls -/

/-- Every monitor call of the table pops its parameters and pushes the result words its code lists, the error code on
top: zero when the call succeeds, else not zero and the same as R0. A successful Read delivers R0 bytes, at most `nbytes`.
Nothing else changes but the host's own state and the bytes the host stores in the buffer the call names. What the host
answers, and when a call succeeds, is free but for R408's admitted buffer (log entries 11 to 14). A code that is not in
the table raises EMON and only the code is popped. -/
def Obligations.MonitorCallConvention : Prop :=
  (∀ (s : State) (c : MonCall) (p r : Int) (ps : List Word) (a : MonAnswer), s.wf = true →
     monCall (s.top 0) = some c → c.code ≠ monSigtrp → p = 2 * (c.nparams : Int) →
     r = (if c.hasR0 then 2 else 0) + (if c.hasR1 then 2 else 0) + (if c.hasE then 2 else 0) →
     s.has (2 + p) = true → s.room (r - 2 - p) = true →
     ps = ((s.tops 1 c.nparams).map u16).reverse → a = Config.monHost s.host c.code.toNat ps s.data →
     ∃ t : State, exec .mon s = .next t ∧ t = { s with sp := t.sp, data := t.data, host := a.host } ∧
       t.spI = s.spI - 2 - p + r ∧
       (c.hasE = true → callSucceeds (s.drop (2 + p)) c ps a = true →
         t.top 0 = 0 ∧ (s.drop (2 + p)).admits (bufferAddress c ps) (bufferSize c ps a) = true ∧
         ∀ j : Nat, j < (hostBytes c ps a).length →
           t.byte ((bufferAddress c ps : Int) + j) = (hostBytes c ps a).getD j 0#8) ∧
       (c.hasE = true → callSucceeds (s.drop (2 + p)) c ps a = false →
         t.top 0 ≠ 0 ∧ (c.hasR0 = true → t.word (t.spI - r + 2) = t.word t.spI)) ∧
       (c.code = monRead → (hostBytes c ps a).length ≤ byteCount ps ∧
         (callSucceeds (s.drop (2 + p)) c ps a = true → t.topA 1 = (hostBytes c ps a).length)) ∧
       (c.buffer = none → hostBytes c ps a = []) ∧
       (∀ x : Int, 0 ≤ x → (x < s.spI - p ∨ s.spI - p + r ≤ x) →
         (x < bufferAddress c ps ∨ (bufferAddress c ps : Int) + (hostBytes c ps a).length ≤ x) →
         t.byte x = s.byte x)) ∧
  (∀ s : State, s.wf = true → s.has 2 = true → monCall (s.top 0) = none → s.defaultHandling = false →
     completes .mon s ((s.drop 2).raiseAll [EMON]) 0 0)

/-- Sigtrp records the action of a signal and answers the previous one; a bad argument leaves the table as it is and is
reported by an error code, which the model never takes to be zero (log entry 12). But for SP, the two result words, the
table and the host's own state (log entry 11) the machine is unchanged. Which numbers are signals of the host is free (log
entry 15). -/
def Obligations.SigtrpRecordsTheAction : Prop :=
  ∀ (s : State) (g : Word) (m : Int), s.wf = true → s.has 6 = true → s.top 0 = 48 → g = s.word (s.spI - 2) →
    m = s.top 2 →
    ∃ t : State, exec .mon s = .next t ∧
      t = { s with sp := t.sp, data := t.data, host := t.host, sigmap := t.sigmap } ∧
      t.spI = s.spI - 2 ∧ storesOnly s t (s.spI - 4) 4 ∧
      (Config.isSignal g = true → (m = -2 ∨ m = -3 ∨ 0 ≤ m ∧ m ≤ 255) →
        t.top 0 = 0 ∧ t.top 1 = sigNumber (sigLookup s.sigmap g) ∧ sigNumber (sigLookup t.sigmap g) = m ∧
        ∀ h : Word, h ≠ g → sigLookup t.sigmap h = sigLookup s.sigmap h) ∧
      ((Config.isSignal g = false ∨ (m < -3 ∨ m = -1 ∨ 255 < m)) →
        t.top 0 ≠ 0 ∧ t.top 1 = t.top 0 ∧ t.sigmap = s.sigmap)

/-! ## Traps -/

/-- A fatal error, or any error under default handling, stops the machine at once; any other is queued and the instruction
goes on. Delivery under default handling stops the machine with the oldest number; with nothing pending it does nothing. -/
def Obligations.TrapStopsOrQueues : Prop :=
  (∀ (s : State) (n : Byte), s.wf = true →
     (n.toNat ∈ [0, 1, 2, 3, 4, 23, 25, 26, 27, 28] ∨ s.uerrorlb = 0#16 ∨ s.uerrorproc = 65534#16 →
       runOp (trap n) s = .next (s.abort n)) ∧
     (n.toNat ∉ [0, 1, 2, 3, 4, 23, 25, 26, 27, 28] → s.uerrorlb ≠ 0#16 → s.uerrorproc ≠ 65534#16 →
       runOp (trap n) s = .next (s.raiseAll [n]))) ∧
  (∀ s : State, s.status = .running →
     (s.pending = [] → runOp deliver s = .next s) ∧
     (∀ n rest, s.pending = n :: rest → s.defaultHandling = true → runOp deliver s = .next (s.abort n)))

/-- TRP raises the popped number; outside 0..255 the status becomes Undefined. -/
def Obligations.TrapInstruction : Prop :=
  ∀ (s : State) (n : Int), s.wf = true → s.has 2 = true → n = s.top 0 →
    (0 ≤ n → n ≤ 255 → isFatal (BitVec.ofInt 8 n) = false → s.defaultHandling = false →
      completes .trp s ((s.drop 2).raiseAll [BitVec.ofInt 8 n]) 0 0) ∧
    (0 ≤ n → n ≤ 255 → (isFatal (BitVec.ofInt 8 n) = true ∨ s.defaultHandling = true) →
      exec .trp s = .next ((s.drop 2).abort (BitVec.ofInt 8 n))) ∧
    (n < 0 ∨ 255 < n → exec .trp s = .next ((s.drop 2).stopped .undefined))

/-- Trap entry: the frame it builds, the registers it resets, the list it saves, where PC goes. -/
def Obligations.TrapEntryBuildsTheFrame : Prop :=
  ∀ (s t : State) (n : Byte) (rest : List Byte), s.wf = true → s.status = .running → s.pending = n :: rest →
    s.defaultHandling = false → s.room 10 = true → s.okproc (adr s.uerrorproc) = true →
    t = ((((s.beginTrap rest).pushedAll
          [if s.normalmap then 1 else 0, adr s.uerrorlb, s.lbI, s.pcI, (n.toNat : Int)]).setLb (s.spI + 10)).setPc
          (s.procBaseOf (adr s.uerrorproc))).setNormal true →
    runOp deliver s = .next t ∧ t.lbI = s.spI + 10 ∧ t.spI = s.spI + 10 ∧ t.uerrorlb = 0#16 ∧ t.uerrorproc = 0#16 ∧
    t.saved = rest :: s.saved ∧ t.pending = [] ∧
    t.word t.lbI = u16 n.toNat ∧ t.word (t.lbI - 2) = s.pc ∧ t.word (t.lbI - 4) = s.lb ∧
    t.word (t.lbI - 6) = s.uerrorlb ∧ t.word (t.lbI - 8) = (if s.normalmap then 1#16 else 0#16) ∧
    storesOnly s t (s.spI + 2) 10

/-- RTT restores PC, LB, SP, the context and the undelivered numbers. -/
def Obligations.ReturnFromTrapRestores : Prop :=
  ∀ (s t : State), s.wf = true → s.okreturn = true → adr (s.word (s.lbI - 4)) ≤ s.lbI - 8 → s.okword (s.lbI - 8) = true →
    t = { s with
          pc := s.word (s.lbI - 2), lb := s.word (s.lbI - 4), sp := u16 (s.lbI - 10),
          normalmap := decide (s.word (s.lbI - 8) = 1#16),
          pending := (match s.saved with | [] => s.pending | l :: _ => l), saved := s.saved.tail } →
    exec .rtt s = .next t ∧ storesNothing s t

/-- A trap is transparent: entering an error procedure and leaving it at once by RTT restores every register, the
context and the lists of error numbers; the error registers are reset, and only five words above the old top of the
stack have changed. -/
def Obligations.TrapRoundTrip : Prop :=
  ∀ (s t : State) (n : Byte) (rest : List Byte), s.wf = true → s.status = .running → s.pending = n :: rest →
    s.defaultHandling = false → s.room 10 = true → s.okproc (adr s.uerrorproc) = true → runOp deliver s = .next t →
    ∃ u : State, exec .rtt t = .next u ∧ u.pc = s.pc ∧ u.lb = s.lb ∧ u.sp = s.sp ∧ u.hp = s.hp ∧
      u.normalmap = s.normalmap ∧ u.pending = rest ∧ u.saved = s.saved ∧ u.uerrorlb = 0#16 ∧ u.uerrorproc = 0#16 ∧
      storesOnly s u (s.spI + 2) 10

/-- A signal whose action is a trap number is taken between two instructions, with the effect of a TRP there.
When a signal arrives is an input of the model (log entry 15). -/
def Obligations.SignalTakenBetweenInstructions : Prop :=
  ∀ (s : State) (g : Word) (rest : List (Option Word)), s.inv = true → s.status = .running →
    s.signals = some g :: rest →
    (∀ n, sigLookup s.sigmap g = some (.trap n) →
      step s = afterExec (runOp (trap n) { s with signals := rest })) ∧
    (sigLookup s.sigmap g = some .ignore → step s = .next { s with signals := rest })

/-! ## Data accesses -/

/-- A word access, read or write, needs an even address, an address from 0 to maxdata, and one that is not strictly
between SP and HP; a byte access needs the same but evenness. Any other is the fatal EPTR and writes nothing. A word read
back after a write is the word written, low byte first. A push that meets the heap and a pop below the frame are the
fatal ESTACK; a pop at SP = -2 is the fatal EPTR. -/
def Obligations.DataAccessRules : Prop :=
  (∀ (s : State) (a v : Int), s.wf = true →
     (a % 2 ≠ 0 ∨ a < 0 ∨ s.maxdata < a ∨ (s.spI < a ∧ a < s.hpI) →
       runOp (store a v) s = .next (s.abort EPTR) ∧ EStateM.run (mema a) s = .error () (s.abort EPTR) ∧
       EStateM.run (memw a) s = .error () (s.abort EPTR)) ∧
     (a % 2 = 0 → 0 ≤ a → a ≤ s.maxdata → (a ≤ s.spI ∨ s.hpI ≤ a) →
       EStateM.run (mema a) s = .ok (adr (s.word a)) s ∧ EStateM.run (memw a) s = .ok (s16 (s.word a)) s ∧
       runOp (store a v) s = .next (s.putWord a v) ∧ (s.putWord a v).word a = u16 v ∧
       (s.putWord a v).byte a = BitVec.ofInt 8 v ∧ (s.putWord a v).byte (a + 1) = BitVec.ofInt 8 (v / 256) ∧
       storesOnly s (s.putWord a v) a 2)) ∧
  (∀ (s : State) (a : Int) (b : Byte), s.wf = true →
     (a < 0 ∨ s.maxdata < a ∨ (s.spI < a ∧ a < s.hpI) →
       runOp (storeb a b) s = .next (s.abort EPTR) ∧ EStateM.run (memb a) s = .error () (s.abort EPTR)) ∧
     (0 ≤ a → a ≤ s.maxdata → (a ≤ s.spI ∨ s.hpI ≤ a) →
       EStateM.run (memb a) s = .ok ((s.byte a).toNat : Int) s ∧ runOp (storeb a b) s = .next (s.putByte a b) ∧
       (s.putByte a b).byte a = b ∧ storesOnly s (s.putByte a b) a 1)) ∧
  (∀ (s : State) (v : Int), s.wf = true →
     (s.hpI ≤ s.spI + 2 → runOp (push v) s = .next (s.abort ESTACK)) ∧
     (s.room 2 = true → runOp (push v) s = .next (s.pushed v)) ∧
     (s.spI = s.lbI - 2 → 0 ≤ s.spI →
       EStateM.run popw s = .error () (s.abort ESTACK) ∧ EStateM.run popa s = .error () (s.abort ESTACK) ∧
       exec .neg s = .next (s.abort ESTACK)) ∧
     (s.spI = -2 →
       EStateM.run popw s = .error () (s.abort EPTR) ∧ EStateM.run popa s = .error () (s.abort EPTR)) ∧
     (s.has 2 = true →
       EStateM.run popw s = .ok (s.top 0) (s.drop 2) ∧ EStateM.run popa s = .ok (s.topA 0) (s.drop 2)))

/-! ## The whole machine -/

/-- Every step keeps the invariant: the registers stay admitted, the memories canonical, the text and its table in
place, nothing left to deliver. -/
def Obligations.EveryStepKeepsTheInvariant : Prop :=
  ∀ s t : State, s.inv = true → step s = .next t → t.inv = true

/-- No step changes the instruction space, the base of its descriptor table, the header or the sizes of the spaces. -/
def Obligations.NoStepChangesTheProgram : Prop :=
  ∀ s t : State, step s = .next t →
    t.code = s.code ∧ t.pd = s.pd ∧ t.header = s.header ∧ t.params = s.params

/-- Apart from an escape byte on its own, which runs any instruction of the secondary table: HP is written only by STR 2,
the error procedure only by SIG, the context only by the mark and call instructions and RTT. -/
def Obligations.RegistersWithFewWriters : Prop :=
  (∀ (i : Instr) (s t : State), i ≠ .str 2 → i ≠ .escape → exec i s = .next t → t.hp = s.hp) ∧
  (∀ (i : Instr) (s t : State), i ≠ .sig → i ≠ .escape → exec i s = .next t →
     t.uerrorlb = s.uerrorlb ∧ t.uerrorproc = s.uerrorproc) ∧
  (∀ (i : Instr) (s t : State), exec i s = .next t → i ≠ .escape → i ≠ .rtt →
     ((∀ k, i ≠ .mrx k) → i ≠ .mxs → s.normalmap = true → t.normalmap = true) ∧
     ((∀ k, i ≠ .mrk k) → i ≠ .mrs → (∀ k, i ≠ .cal k) → i ≠ .cas → s.normalmap = false → t.normalmap = false))

/-! ## Replacement sequences and loading -/

/-- Some of the replacement sequences: the six compare-and-branch instructions are CMI and the branch on its result; twelve
immediate forms are their stacked forms behind a LOC; TLE, TGE and TNE are two basic tests. -/
def Obligations.KernelReplacements : Prop :=
  (∀ (s : State) (n : Int) (i : Instr) (is : List Instr), s.wf = true → s.status = .running → s.has 4 = true →
     (i = .blt n ∨ i = .ble n ∨ i = .beq n ∨ i = .bne n ∨ i = .bge n ∨ i = .bgt n) → replacement i = some is →
     ∃ t u : State, exec i s = .next t ∧ execAll is s = .next u ∧ sameVisible t u) ∧
  (∀ (s t : State) (k : Int) (i : Instr) (is : List Instr), s.wf = true → s.room 2 = true →
     -32768 ≤ k → k ≤ 32767 → s.status = .running →
     (i = .and k ∨ i = .ior k ∨ i = .xor k ∨ i = .com k ∨ i = .inn k ∨ i = .cmu k ∨ i = .beg k ∨ i = .blm k ∨
      i = .dup k ∨ i = .mrk k ∨ i = .ret k ∨ i = .loi k) →
     replacement i = some is → exec i s = .next t → t.status = .running →
     ∃ u : State, execAll is s = .next u ∧ sameVisible t u) ∧
  (∀ (s : State) (i : Instr) (is : List Instr), s.wf = true → s.status = .running → s.has 2 = true →
     (i = .tle ∨ i = .tge ∨ i = .tne) → replacement i = some is → execAll is s = exec i s)

/-- A load file and a compact assembly file are read back from the bytes they are written as. The model's readings: the
16-bit constant is signed but for the labels of branches (log entry 21), NDATA of 0 and of 1 both mean no block
(log entry 17). -/
def Obligations.FilesRoundTrip : Prop :=
  (∀ f : LoadFile, f.wf = true → readLoadFile f.bytes = some f) ∧
  (∀ ss : List AsmStatement, moduleWf ss = true → readCompact (writeCompact ss) = some ss)

/-- The start state of a program: the first mark block, the registers and both spaces as the start-up sequence leaves
them, and the invariant holds. The global data area is the line number, the undefined words and the initialized ones, G
bytes in all; behind it the first mark block, then zeros. The instruction space is the text, the descriptor table, then
zeros. What a double and a real of the load file are in memory is a parameter (log entries 5, 7 and 17). -/
def Obligations.StartStateOfAProgram : Prop :=
  ∀ (f : LoadFile) (p : Params) (s : State), f.start p = some s → s.status = .running →
    s.inv = true ∧ s.spI = s.lbI - 2 ∧ s.hpI = s.maxdata + 1 ∧ s.pd = f.header.ntext ∧ s.header = f.header ∧
    s.params = p ∧ s.normalmap = true ∧ s.uerrorlb = 0#16 ∧ s.uerrorproc = 0#16 ∧ s.saved = [] ∧ s.sigmap = [] ∧
    s.word 0 = 0#16 ∧ s.word (s.lbI - 6) = u16 s.maxdata ∧ s.word (s.lbI - 4) = u16 s.maxdata ∧
    s.word (s.lbI - 2) = u16 s.maxcode ∧ s.pcI = s.procBaseOf (adr f.header.entry) ∧
    s.lbI = 2 * (f.globals.length : Int) + 6 ∧
    (∀ j : Nat, j < f.globals.length → s.word (2 * (j : Int)) = f.globals.getD j 0#16) ∧
    (∀ a : Int, s.lbI ≤ a → s.byte a = 0#8) ∧
    (∀ j : Nat, j < f.text.length → s.code.read j = f.text.getD j 0#8) ∧
    (∀ j : Nat, j < f.descriptors.length → s.code.read (f.text.length + j) = f.descriptors.getD j 0#8) ∧
    (∀ j : Nat, f.text.length + f.descriptors.length ≤ j → s.code.read j = 0#8)
end

