-- ==== Sys2Proof/Laws/Memory.lean ====
section
/-! SUPPORT. Laws of memories: reading after writing, and the canonical form, which every write keeps. -/

namespace Sys2Proof.Machine

/-- A cell in front of a memory that reads as unlisted there. -/
theorem Memory.read_consCell (x : Nat) (v : Byte) (m : Memory) (y : Nat)
    (hv : y = x → v = Memory.unlisted → m.read x = Memory.unlisted) :
    (Memory.consCell x v m).read y = if y = x then v else m.read y := by
  unfold Memory.consCell
  split
  · next hu =>
    split
    · next hy => subst hy; rw [hu]; exact hv rfl hu
    · rfl
  · simp [Memory.read]

/-- Below its first listed address a memory reads as unlisted. -/
theorem Memory.read_below (m : Memory) (lo : Nat) (h : Memory.wfAbove (some lo) m = true) (x : Nat) (hx : x ≤ lo) :
    m.read x = Memory.unlisted := by
  induction m generalizing lo with
  | nil => rfl
  | cons c m ih =>
    obtain ⟨a, b⟩ := c
    simp only [Memory.wfAbove, Bool.and_eq_true, decide_eq_true_eq] at h
    have : x ≠ a := by omega
    simp only [Memory.read, this, if_false]
    exact ih a h.2 (by omega)

theorem Memory.wfAbove_mono (m : Memory) (o : Option Nat) (h : Memory.wfAbove o m = true) :
    Memory.wfAbove none m = true := by
  cases m with
  | nil => rfl
  | cons c m =>
    obtain ⟨a, b⟩ := c
    simp only [Memory.wfAbove, Bool.and_eq_true] at h ⊢
    exact ⟨⟨trivial, h.1.2⟩, h.2⟩

theorem Memory.wfAbove_weaken (m : Memory) (l k : Nat) (hk : k ≤ l) (h : Memory.wfAbove (some l) m = true) :
    Memory.wfAbove (some k) m = true := by
  cases m with
  | nil => rfl
  | cons c m =>
    obtain ⟨a, b⟩ := c
    simp only [Memory.wfAbove, Bool.and_eq_true, decide_eq_true_eq] at h ⊢
    exact ⟨⟨by omega, h.1.2⟩, h.2⟩

theorem Memory.wfAbove_consCell (x : Nat) (v : Byte) (m : Memory) (o : Option Nat) (ho : ∀ l, o = some l → l < x)
    (h : Memory.wfAbove (some x) m = true) : Memory.wfAbove o (Memory.consCell x v m) = true := by
  unfold Memory.consCell
  split
  · cases o with
    | none => exact Memory.wfAbove_mono m _ h
    | some l => exact Memory.wfAbove_weaken m x l (Nat.le_of_lt (ho l rfl)) h
  · next hv =>
    cases o with
    | none => simp [Memory.wfAbove, h, hv]
    | some l => simp [Memory.wfAbove, h, hv, ho l rfl]

theorem Memory.wfAbove_write (m : Memory) (o : Option Nat) (x : Nat) (v : Byte) (ho : ∀ l, o = some l → l < x)
    (h : Memory.wfAbove o m = true) : Memory.wfAbove o (m.write x v) = true := by
  induction m generalizing o with
  | nil => exact Memory.wfAbove_consCell x v [] o ho rfl
  | cons c m ih =>
    obtain ⟨a, b⟩ := c
    simp only [Memory.wfAbove, Bool.and_eq_true, decide_eq_true_eq] at h
    simp only [Memory.write]
    split
    · next hx =>
      exact Memory.wfAbove_consCell x v _ o ho (by simp [Memory.wfAbove, hx, h.1.2, h.2])
    · split
      · next hx => subst hx; exact Memory.wfAbove_consCell x v m o ho h.2
      · next h1 h2 =>
        simp only [Memory.wfAbove, Bool.and_eq_true, decide_eq_true_eq]
        refine ⟨⟨h.1.1, h.1.2⟩, ih (some a) (fun l hl => ?_) h.2⟩
        cases hl; omega

/-- A byte write keeps the canonical form. -/
theorem Memory.wf_write (m : Memory) (x : Nat) (v : Byte) (h : m.wf = true) : (m.write x v).wf = true :=
  Memory.wfAbove_write m none x v (fun _ hl => by cases hl) h

theorem Memory.wf_writeWord (m : Memory) (x : Nat) (w : Word) (h : m.wf = true) : (m.writeWord x w).wf = true :=
  Memory.wf_write _ _ _ (Memory.wf_write _ _ _ h)

theorem Memory.wf_writeBytes (m : Memory) (x : Nat) (bs : List Byte) (h : m.wf = true) :
    (m.writeBytes x bs).wf = true := by
  induction bs generalizing m x with
  | nil => exact h
  | cons b bs ih => exact ih _ _ (Memory.wf_write m x b h)

/-- In a memory whose addresses rise from `o`, a write is read back and changes nothing else. -/
theorem Memory.read_write_above (m : Memory) (o : Option Nat) (h : Memory.wfAbove o m = true) (x y : Nat) (v : Byte) :
    (m.write x v).read y = if y = x then v else m.read y := by
  induction m generalizing o with
  | nil =>
    simp only [Memory.write, Memory.consCell]
    split
    · next hv => split
                 · simp [Memory.read, hv]
                 · rfl
    · simp [Memory.read]
  | cons c m ih =>
    obtain ⟨a, b⟩ := c
    simp only [Memory.wfAbove, Bool.and_eq_true, decide_eq_true_eq] at h
    simp only [Memory.write]
    split
    · next hx =>
      apply Memory.read_consCell
      intro _ _
      exact Memory.read_below _ x (by simp [Memory.wfAbove, hx, h.1.2, h.2]) x (Nat.le_refl x)
    · split
      · next hx =>
        subst hx
        rw [Memory.read_consCell _ _ _ _ (fun _ _ => Memory.read_below m x h.2 x (Nat.le_refl x))]
        split
        · rfl
        · next hy => simp [Memory.read, hy]
      · next h1 h2 =>
        simp only [Memory.read]
        rw [ih (some a) h.2]
        split
        · next hy =>
          have : y ≠ x := by omega
          simp [this]
        · rfl

/-- Reading after writing (R78): the byte written, or what was there. -/
theorem Memory.read_write (m : Memory) (h : m.wf = true) (x y : Nat) (v : Byte) :
    (m.write x v).read y = if y = x then v else m.read y :=
  Memory.read_write_above m none h x y v

/-- Canonical memories that read alike are equal. -/
theorem Memory.eq_of_read (m n : Memory) (o : Option Nat) (hm : Memory.wfAbove o m = true)
    (hn : Memory.wfAbove o n = true) (h : ∀ x, m.read x = n.read x) : m = n := by
  induction m generalizing n o with
  | nil =>
    cases n with
    | nil => rfl
    | cons c n =>
      obtain ⟨a, b⟩ := c
      simp only [Memory.wfAbove, Bool.and_eq_true, decide_eq_true_eq] at hn
      have := h a
      simp [Memory.read] at this
      exact absurd this.symm hn.1.2
  | cons c m ih =>
    obtain ⟨a, b⟩ := c
    cases n with
    | nil =>
      simp only [Memory.wfAbove, Bool.and_eq_true, decide_eq_true_eq] at hm
      have := h a
      simp [Memory.read] at this
      exact absurd this hm.1.2
    | cons d n =>
      obtain ⟨a', b'⟩ := d
      simp only [Memory.wfAbove, Bool.and_eq_true, decide_eq_true_eq] at hm hn
      have hlt1 : ¬ a < a' := by
        intro hlt
        have h1 := h a
        have h2 : Memory.read ((a', b') :: n) a = Memory.unlisted :=
          Memory.read_below _ a (by simp [Memory.wfAbove, hlt, hn.1.2, hn.2]) a (Nat.le_refl a)
        rw [h2] at h1
        simp [Memory.read] at h1
        exact hm.1.2 h1
      have hlt2 : ¬ a' < a := by
        intro hlt
        have h1 := h a'
        have h2 : Memory.read ((a, b) :: m) a' = Memory.unlisted :=
          Memory.read_below _ a' (by simp [Memory.wfAbove, hlt, hm.1.2, hm.2]) a' (Nat.le_refl a')
        rw [h2] at h1
        simp [Memory.read] at h1
        exact hn.1.2 h1.symm
      have ha : a = a' := by omega
      subst ha
      have hb : b = b' := by simpa [Memory.read] using h a
      subst hb
      have hmn : m = n := by
        apply ih n (some a) hm.2 hn.2
        intro x
        by_cases hx : x ≤ a
        · rw [Memory.read_below m a hm.2 x hx, Memory.read_below n a hn.2 x hx]
        · have hne : x ≠ a := by omega
          simpa [Memory.read, hne] using h x
      rw [hmn]

end Sys2Proof.Machine
end

