-- ==== Sys2Proof/Laws/State.lean ====
section
/-! SUPPORT. One lemma for each field and each named update of the state, and for the registers read as numbers. -/

namespace Sys2Proof.Machine

@[simp] theorem State.setPc_pc (s : State) (a : Int) : (s.setPc a).pc = u16 a := rfl
@[simp] theorem State.setPc_lb (s : State) (a : Int) : (s.setPc a).lb = s.lb := rfl
@[simp] theorem State.setPc_sp (s : State) (a : Int) : (s.setPc a).sp = s.sp := rfl
@[simp] theorem State.setPc_hp (s : State) (a : Int) : (s.setPc a).hp = s.hp := rfl
@[simp] theorem State.setPc_pd (s : State) (a : Int) : (s.setPc a).pd = s.pd := rfl
@[simp] theorem State.setPc_uerrorlb (s : State) (a : Int) : (s.setPc a).uerrorlb = s.uerrorlb := rfl
@[simp] theorem State.setPc_uerrorproc (s : State) (a : Int) : (s.setPc a).uerrorproc = s.uerrorproc := rfl
@[simp] theorem State.setPc_code (s : State) (a : Int) : (s.setPc a).code = s.code := rfl
@[simp] theorem State.setPc_data (s : State) (a : Int) : (s.setPc a).data = s.data := rfl
@[simp] theorem State.setPc_normalmap (s : State) (a : Int) : (s.setPc a).normalmap = s.normalmap := rfl
@[simp] theorem State.setPc_status (s : State) (a : Int) : (s.setPc a).status = s.status := rfl
@[simp] theorem State.setPc_header (s : State) (a : Int) : (s.setPc a).header = s.header := rfl
@[simp] theorem State.setPc_pending (s : State) (a : Int) : (s.setPc a).pending = s.pending := rfl
@[simp] theorem State.setPc_saved (s : State) (a : Int) : (s.setPc a).saved = s.saved := rfl
@[simp] theorem State.setPc_sigmap (s : State) (a : Int) : (s.setPc a).sigmap = s.sigmap := rfl
@[simp] theorem State.setPc_params (s : State) (a : Int) : (s.setPc a).params = s.params := rfl
@[simp] theorem State.setPc_freeCount (s : State) (a : Int) : (s.setPc a).freeCount = s.freeCount := rfl
@[simp] theorem State.setPc_host (s : State) (a : Int) : (s.setPc a).host = s.host := rfl
@[simp] theorem State.setPc_signals (s : State) (a : Int) : (s.setPc a).signals = s.signals := rfl
@[simp] theorem State.setPc_lbI (s : State) (a : Int) : (s.setPc a).lbI = s.lbI := rfl
@[simp] theorem State.setPc_spI (s : State) (a : Int) : (s.setPc a).spI = s.spI := rfl
@[simp] theorem State.setPc_hpI (s : State) (a : Int) : (s.setPc a).hpI = s.hpI := rfl
@[simp] theorem State.setPc_pdI (s : State) (a : Int) : (s.setPc a).pdI = s.pdI := rfl
@[simp] theorem State.setPc_nproc (s : State) (a : Int) : (s.setPc a).nproc = s.nproc := rfl
@[simp] theorem State.setPc_nline (s : State) (a : Int) : (s.setPc a).nline = s.nline := rfl
@[simp] theorem State.setPc_maxdata (s : State) (a : Int) : (s.setPc a).maxdata = s.maxdata := rfl
@[simp] theorem State.setPc_maxcode (s : State) (a : Int) : (s.setPc a).maxcode = s.maxcode := rfl
@[simp] theorem State.setPc_defaultHandling (s : State) (a : Int) : (s.setPc a).defaultHandling = s.defaultHandling := rfl
@[simp] theorem State.setPc_word (s : State) (a : Int) (x : Int) : (s.setPc a).word x = s.word x := rfl
@[simp] theorem State.setPc_byte (s : State) (a : Int) (x : Int) : (s.setPc a).byte x = s.byte x := rfl
@[simp] theorem State.setPc_okadr (s : State) (a : Int) (x : Int) : (s.setPc a).okadr x = s.okadr x := rfl
@[simp] theorem State.setPc_okword (s : State) (a : Int) (x : Int) : (s.setPc a).okword x = s.okword x := rfl

@[simp] theorem State.setSp_pc (s : State) (a : Int) : (s.setSp a).pc = s.pc := rfl
@[simp] theorem State.setSp_lb (s : State) (a : Int) : (s.setSp a).lb = s.lb := rfl
@[simp] theorem State.setSp_sp (s : State) (a : Int) : (s.setSp a).sp = u16 a := rfl
@[simp] theorem State.setSp_hp (s : State) (a : Int) : (s.setSp a).hp = s.hp := rfl
@[simp] theorem State.setSp_pd (s : State) (a : Int) : (s.setSp a).pd = s.pd := rfl
@[simp] theorem State.setSp_uerrorlb (s : State) (a : Int) : (s.setSp a).uerrorlb = s.uerrorlb := rfl
@[simp] theorem State.setSp_uerrorproc (s : State) (a : Int) : (s.setSp a).uerrorproc = s.uerrorproc := rfl
@[simp] theorem State.setSp_code (s : State) (a : Int) : (s.setSp a).code = s.code := rfl
@[simp] theorem State.setSp_data (s : State) (a : Int) : (s.setSp a).data = s.data := rfl
@[simp] theorem State.setSp_normalmap (s : State) (a : Int) : (s.setSp a).normalmap = s.normalmap := rfl
@[simp] theorem State.setSp_status (s : State) (a : Int) : (s.setSp a).status = s.status := rfl
@[simp] theorem State.setSp_header (s : State) (a : Int) : (s.setSp a).header = s.header := rfl
@[simp] theorem State.setSp_pending (s : State) (a : Int) : (s.setSp a).pending = s.pending := rfl
@[simp] theorem State.setSp_saved (s : State) (a : Int) : (s.setSp a).saved = s.saved := rfl
@[simp] theorem State.setSp_sigmap (s : State) (a : Int) : (s.setSp a).sigmap = s.sigmap := rfl
@[simp] theorem State.setSp_params (s : State) (a : Int) : (s.setSp a).params = s.params := rfl
@[simp] theorem State.setSp_freeCount (s : State) (a : Int) : (s.setSp a).freeCount = s.freeCount := rfl
@[simp] theorem State.setSp_host (s : State) (a : Int) : (s.setSp a).host = s.host := rfl
@[simp] theorem State.setSp_signals (s : State) (a : Int) : (s.setSp a).signals = s.signals := rfl
@[simp] theorem State.setSp_pcI (s : State) (a : Int) : (s.setSp a).pcI = s.pcI := rfl
@[simp] theorem State.setSp_lbI (s : State) (a : Int) : (s.setSp a).lbI = s.lbI := rfl
@[simp] theorem State.setSp_hpI (s : State) (a : Int) : (s.setSp a).hpI = s.hpI := rfl
@[simp] theorem State.setSp_pdI (s : State) (a : Int) : (s.setSp a).pdI = s.pdI := rfl
@[simp] theorem State.setSp_nproc (s : State) (a : Int) : (s.setSp a).nproc = s.nproc := rfl
@[simp] theorem State.setSp_nline (s : State) (a : Int) : (s.setSp a).nline = s.nline := rfl
@[simp] theorem State.setSp_maxdata (s : State) (a : Int) : (s.setSp a).maxdata = s.maxdata := rfl
@[simp] theorem State.setSp_maxcode (s : State) (a : Int) : (s.setSp a).maxcode = s.maxcode := rfl
@[simp] theorem State.setSp_defaultHandling (s : State) (a : Int) : (s.setSp a).defaultHandling = s.defaultHandling := rfl
@[simp] theorem State.setSp_word (s : State) (a : Int) (x : Int) : (s.setSp a).word x = s.word x := rfl
@[simp] theorem State.setSp_byte (s : State) (a : Int) (x : Int) : (s.setSp a).byte x = s.byte x := rfl

@[simp] theorem State.setLb_pc (s : State) (a : Int) : (s.setLb a).pc = s.pc := rfl
@[simp] theorem State.setLb_lb (s : State) (a : Int) : (s.setLb a).lb = u16 a := rfl
@[simp] theorem State.setLb_sp (s : State) (a : Int) : (s.setLb a).sp = s.sp := rfl
@[simp] theorem State.setLb_hp (s : State) (a : Int) : (s.setLb a).hp = s.hp := rfl
@[simp] theorem State.setLb_pd (s : State) (a : Int) : (s.setLb a).pd = s.pd := rfl
@[simp] theorem State.setLb_uerrorlb (s : State) (a : Int) : (s.setLb a).uerrorlb = s.uerrorlb := rfl
@[simp] theorem State.setLb_uerrorproc (s : State) (a : Int) : (s.setLb a).uerrorproc = s.uerrorproc := rfl
@[simp] theorem State.setLb_code (s : State) (a : Int) : (s.setLb a).code = s.code := rfl
@[simp] theorem State.setLb_data (s : State) (a : Int) : (s.setLb a).data = s.data := rfl
@[simp] theorem State.setLb_normalmap (s : State) (a : Int) : (s.setLb a).normalmap = s.normalmap := rfl
@[simp] theorem State.setLb_status (s : State) (a : Int) : (s.setLb a).status = s.status := rfl
@[simp] theorem State.setLb_header (s : State) (a : Int) : (s.setLb a).header = s.header := rfl
@[simp] theorem State.setLb_pending (s : State) (a : Int) : (s.setLb a).pending = s.pending := rfl
@[simp] theorem State.setLb_saved (s : State) (a : Int) : (s.setLb a).saved = s.saved := rfl
@[simp] theorem State.setLb_sigmap (s : State) (a : Int) : (s.setLb a).sigmap = s.sigmap := rfl
@[simp] theorem State.setLb_params (s : State) (a : Int) : (s.setLb a).params = s.params := rfl
@[simp] theorem State.setLb_freeCount (s : State) (a : Int) : (s.setLb a).freeCount = s.freeCount := rfl
@[simp] theorem State.setLb_host (s : State) (a : Int) : (s.setLb a).host = s.host := rfl
@[simp] theorem State.setLb_signals (s : State) (a : Int) : (s.setLb a).signals = s.signals := rfl
@[simp] theorem State.setLb_pcI (s : State) (a : Int) : (s.setLb a).pcI = s.pcI := rfl
@[simp] theorem State.setLb_spI (s : State) (a : Int) : (s.setLb a).spI = s.spI := rfl
@[simp] theorem State.setLb_hpI (s : State) (a : Int) : (s.setLb a).hpI = s.hpI := rfl
@[simp] theorem State.setLb_pdI (s : State) (a : Int) : (s.setLb a).pdI = s.pdI := rfl
@[simp] theorem State.setLb_nproc (s : State) (a : Int) : (s.setLb a).nproc = s.nproc := rfl
@[simp] theorem State.setLb_nline (s : State) (a : Int) : (s.setLb a).nline = s.nline := rfl
@[simp] theorem State.setLb_maxdata (s : State) (a : Int) : (s.setLb a).maxdata = s.maxdata := rfl
@[simp] theorem State.setLb_maxcode (s : State) (a : Int) : (s.setLb a).maxcode = s.maxcode := rfl
@[simp] theorem State.setLb_defaultHandling (s : State) (a : Int) : (s.setLb a).defaultHandling = s.defaultHandling := rfl
@[simp] theorem State.setLb_word (s : State) (a : Int) (x : Int) : (s.setLb a).word x = s.word x := rfl
@[simp] theorem State.setLb_byte (s : State) (a : Int) (x : Int) : (s.setLb a).byte x = s.byte x := rfl
@[simp] theorem State.setLb_okadr (s : State) (a : Int) (x : Int) : (s.setLb a).okadr x = s.okadr x := rfl
@[simp] theorem State.setLb_okword (s : State) (a : Int) (x : Int) : (s.setLb a).okword x = s.okword x := rfl

@[simp] theorem State.setHp_pc (s : State) (a : Int) : (s.setHp a).pc = s.pc := rfl
@[simp] theorem State.setHp_lb (s : State) (a : Int) : (s.setHp a).lb = s.lb := rfl
@[simp] theorem State.setHp_sp (s : State) (a : Int) : (s.setHp a).sp = s.sp := rfl
@[simp] theorem State.setHp_hp (s : State) (a : Int) : (s.setHp a).hp = u16 a := rfl
@[simp] theorem State.setHp_pd (s : State) (a : Int) : (s.setHp a).pd = s.pd := rfl
@[simp] theorem State.setHp_uerrorlb (s : State) (a : Int) : (s.setHp a).uerrorlb = s.uerrorlb := rfl
@[simp] theorem State.setHp_uerrorproc (s : State) (a : Int) : (s.setHp a).uerrorproc = s.uerrorproc := rfl
@[simp] theorem State.setHp_code (s : State) (a : Int) : (s.setHp a).code = s.code := rfl
@[simp] theorem State.setHp_data (s : State) (a : Int) : (s.setHp a).data = s.data := rfl
@[simp] theorem State.setHp_normalmap (s : State) (a : Int) : (s.setHp a).normalmap = s.normalmap := rfl
@[simp] theorem State.setHp_status (s : State) (a : Int) : (s.setHp a).status = s.status := rfl
@[simp] theorem State.setHp_header (s : State) (a : Int) : (s.setHp a).header = s.header := rfl
@[simp] theorem State.setHp_pending (s : State) (a : Int) : (s.setHp a).pending = s.pending := rfl
@[simp] theorem State.setHp_saved (s : State) (a : Int) : (s.setHp a).saved = s.saved := rfl
@[simp] theorem State.setHp_sigmap (s : State) (a : Int) : (s.setHp a).sigmap = s.sigmap := rfl
@[simp] theorem State.setHp_params (s : State) (a : Int) : (s.setHp a).params = s.params := rfl
@[simp] theorem State.setHp_freeCount (s : State) (a : Int) : (s.setHp a).freeCount = s.freeCount := rfl
@[simp] theorem State.setHp_host (s : State) (a : Int) : (s.setHp a).host = s.host := rfl
@[simp] theorem State.setHp_signals (s : State) (a : Int) : (s.setHp a).signals = s.signals := rfl
@[simp] theorem State.setHp_pcI (s : State) (a : Int) : (s.setHp a).pcI = s.pcI := rfl
@[simp] theorem State.setHp_lbI (s : State) (a : Int) : (s.setHp a).lbI = s.lbI := rfl
@[simp] theorem State.setHp_spI (s : State) (a : Int) : (s.setHp a).spI = s.spI := rfl
@[simp] theorem State.setHp_pdI (s : State) (a : Int) : (s.setHp a).pdI = s.pdI := rfl
@[simp] theorem State.setHp_nproc (s : State) (a : Int) : (s.setHp a).nproc = s.nproc := rfl
@[simp] theorem State.setHp_nline (s : State) (a : Int) : (s.setHp a).nline = s.nline := rfl
@[simp] theorem State.setHp_maxdata (s : State) (a : Int) : (s.setHp a).maxdata = s.maxdata := rfl
@[simp] theorem State.setHp_maxcode (s : State) (a : Int) : (s.setHp a).maxcode = s.maxcode := rfl
@[simp] theorem State.setHp_defaultHandling (s : State) (a : Int) : (s.setHp a).defaultHandling = s.defaultHandling := rfl
@[simp] theorem State.setHp_word (s : State) (a : Int) (x : Int) : (s.setHp a).word x = s.word x := rfl
@[simp] theorem State.setHp_byte (s : State) (a : Int) (x : Int) : (s.setHp a).byte x = s.byte x := rfl

@[simp] theorem State.setNormal_pc (s : State) (b : Bool) : (s.setNormal b).pc = s.pc := rfl
@[simp] theorem State.setNormal_lb (s : State) (b : Bool) : (s.setNormal b).lb = s.lb := rfl
@[simp] theorem State.setNormal_sp (s : State) (b : Bool) : (s.setNormal b).sp = s.sp := rfl
@[simp] theorem State.setNormal_hp (s : State) (b : Bool) : (s.setNormal b).hp = s.hp := rfl
@[simp] theorem State.setNormal_pd (s : State) (b : Bool) : (s.setNormal b).pd = s.pd := rfl
@[simp] theorem State.setNormal_uerrorlb (s : State) (b : Bool) : (s.setNormal b).uerrorlb = s.uerrorlb := rfl
@[simp] theorem State.setNormal_uerrorproc (s : State) (b : Bool) : (s.setNormal b).uerrorproc = s.uerrorproc := rfl
@[simp] theorem State.setNormal_code (s : State) (b : Bool) : (s.setNormal b).code = s.code := rfl
@[simp] theorem State.setNormal_data (s : State) (b : Bool) : (s.setNormal b).data = s.data := rfl
@[simp] theorem State.setNormal_normalmap (s : State) (b : Bool) : (s.setNormal b).normalmap = b := rfl
@[simp] theorem State.setNormal_status (s : State) (b : Bool) : (s.setNormal b).status = s.status := rfl
@[simp] theorem State.setNormal_header (s : State) (b : Bool) : (s.setNormal b).header = s.header := rfl
@[simp] theorem State.setNormal_pending (s : State) (b : Bool) : (s.setNormal b).pending = s.pending := rfl
@[simp] theorem State.setNormal_saved (s : State) (b : Bool) : (s.setNormal b).saved = s.saved := rfl
@[simp] theorem State.setNormal_sigmap (s : State) (b : Bool) : (s.setNormal b).sigmap = s.sigmap := rfl
@[simp] theorem State.setNormal_params (s : State) (b : Bool) : (s.setNormal b).params = s.params := rfl
@[simp] theorem State.setNormal_freeCount (s : State) (b : Bool) : (s.setNormal b).freeCount = s.freeCount := rfl
@[simp] theorem State.setNormal_host (s : State) (b : Bool) : (s.setNormal b).host = s.host := rfl
@[simp] theorem State.setNormal_signals (s : State) (b : Bool) : (s.setNormal b).signals = s.signals := rfl
@[simp] theorem State.setNormal_pcI (s : State) (b : Bool) : (s.setNormal b).pcI = s.pcI := rfl
@[simp] theorem State.setNormal_lbI (s : State) (b : Bool) : (s.setNormal b).lbI = s.lbI := rfl
@[simp] theorem State.setNormal_spI (s : State) (b : Bool) : (s.setNormal b).spI = s.spI := rfl
@[simp] theorem State.setNormal_hpI (s : State) (b : Bool) : (s.setNormal b).hpI = s.hpI := rfl
@[simp] theorem State.setNormal_pdI (s : State) (b : Bool) : (s.setNormal b).pdI = s.pdI := rfl
@[simp] theorem State.setNormal_nproc (s : State) (b : Bool) : (s.setNormal b).nproc = s.nproc := rfl
@[simp] theorem State.setNormal_nline (s : State) (b : Bool) : (s.setNormal b).nline = s.nline := rfl
@[simp] theorem State.setNormal_maxdata (s : State) (b : Bool) : (s.setNormal b).maxdata = s.maxdata := rfl
@[simp] theorem State.setNormal_maxcode (s : State) (b : Bool) : (s.setNormal b).maxcode = s.maxcode := rfl
@[simp] theorem State.setNormal_defaultHandling (s : State) (b : Bool) : (s.setNormal b).defaultHandling = s.defaultHandling := rfl
@[simp] theorem State.setNormal_word (s : State) (b : Bool) (x : Int) : (s.setNormal b).word x = s.word x := rfl
@[simp] theorem State.setNormal_byte (s : State) (b : Bool) (x : Int) : (s.setNormal b).byte x = s.byte x := rfl
@[simp] theorem State.setNormal_okadr (s : State) (b : Bool) (x : Int) : (s.setNormal b).okadr x = s.okadr x := rfl
@[simp] theorem State.setNormal_okword (s : State) (b : Bool) (x : Int) : (s.setNormal b).okword x = s.okword x := rfl

@[simp] theorem State.putWord_pc (s : State) (a v : Int) : (s.putWord a v).pc = s.pc := rfl
@[simp] theorem State.putWord_lb (s : State) (a v : Int) : (s.putWord a v).lb = s.lb := rfl
@[simp] theorem State.putWord_sp (s : State) (a v : Int) : (s.putWord a v).sp = s.sp := rfl
@[simp] theorem State.putWord_hp (s : State) (a v : Int) : (s.putWord a v).hp = s.hp := rfl
@[simp] theorem State.putWord_pd (s : State) (a v : Int) : (s.putWord a v).pd = s.pd := rfl
@[simp] theorem State.putWord_uerrorlb (s : State) (a v : Int) : (s.putWord a v).uerrorlb = s.uerrorlb := rfl
@[simp] theorem State.putWord_uerrorproc (s : State) (a v : Int) : (s.putWord a v).uerrorproc = s.uerrorproc := rfl
@[simp] theorem State.putWord_code (s : State) (a v : Int) : (s.putWord a v).code = s.code := rfl
@[simp] theorem State.putWord_data (s : State) (a v : Int) : (s.putWord a v).data = s.data.writeWord a.toNat (u16 v) := rfl
@[simp] theorem State.putWord_normalmap (s : State) (a v : Int) : (s.putWord a v).normalmap = s.normalmap := rfl
@[simp] theorem State.putWord_status (s : State) (a v : Int) : (s.putWord a v).status = s.status := rfl
@[simp] theorem State.putWord_header (s : State) (a v : Int) : (s.putWord a v).header = s.header := rfl
@[simp] theorem State.putWord_pending (s : State) (a v : Int) : (s.putWord a v).pending = s.pending := rfl
@[simp] theorem State.putWord_saved (s : State) (a v : Int) : (s.putWord a v).saved = s.saved := rfl
@[simp] theorem State.putWord_sigmap (s : State) (a v : Int) : (s.putWord a v).sigmap = s.sigmap := rfl
@[simp] theorem State.putWord_params (s : State) (a v : Int) : (s.putWord a v).params = s.params := rfl
@[simp] theorem State.putWord_freeCount (s : State) (a v : Int) : (s.putWord a v).freeCount = s.freeCount := rfl
@[simp] theorem State.putWord_host (s : State) (a v : Int) : (s.putWord a v).host = s.host := rfl
@[simp] theorem State.putWord_signals (s : State) (a v : Int) : (s.putWord a v).signals = s.signals := rfl
@[simp] theorem State.putWord_pcI (s : State) (a v : Int) : (s.putWord a v).pcI = s.pcI := rfl
@[simp] theorem State.putWord_lbI (s : State) (a v : Int) : (s.putWord a v).lbI = s.lbI := rfl
@[simp] theorem State.putWord_spI (s : State) (a v : Int) : (s.putWord a v).spI = s.spI := rfl
@[simp] theorem State.putWord_hpI (s : State) (a v : Int) : (s.putWord a v).hpI = s.hpI := rfl
@[simp] theorem State.putWord_pdI (s : State) (a v : Int) : (s.putWord a v).pdI = s.pdI := rfl
@[simp] theorem State.putWord_nproc (s : State) (a v : Int) : (s.putWord a v).nproc = s.nproc := rfl
@[simp] theorem State.putWord_nline (s : State) (a v : Int) : (s.putWord a v).nline = s.nline := rfl
@[simp] theorem State.putWord_maxdata (s : State) (a v : Int) : (s.putWord a v).maxdata = s.maxdata := rfl
@[simp] theorem State.putWord_maxcode (s : State) (a v : Int) : (s.putWord a v).maxcode = s.maxcode := rfl
@[simp] theorem State.putWord_defaultHandling (s : State) (a v : Int) : (s.putWord a v).defaultHandling = s.defaultHandling := rfl
@[simp] theorem State.putWord_okadr (s : State) (a v : Int) (x : Int) : (s.putWord a v).okadr x = s.okadr x := rfl
@[simp] theorem State.putWord_okword (s : State) (a v : Int) (x : Int) : (s.putWord a v).okword x = s.okword x := rfl

@[simp] theorem State.putByte_pc (s : State) (a : Int) (b : Byte) : (s.putByte a b).pc = s.pc := rfl
@[simp] theorem State.putByte_lb (s : State) (a : Int) (b : Byte) : (s.putByte a b).lb = s.lb := rfl
@[simp] theorem State.putByte_sp (s : State) (a : Int) (b : Byte) : (s.putByte a b).sp = s.sp := rfl
@[simp] theorem State.putByte_hp (s : State) (a : Int) (b : Byte) : (s.putByte a b).hp = s.hp := rfl
@[simp] theorem State.putByte_pd (s : State) (a : Int) (b : Byte) : (s.putByte a b).pd = s.pd := rfl
@[simp] theorem State.putByte_uerrorlb (s : State) (a : Int) (b : Byte) : (s.putByte a b).uerrorlb = s.uerrorlb := rfl
@[simp] theorem State.putByte_uerrorproc (s : State) (a : Int) (b : Byte) : (s.putByte a b).uerrorproc = s.uerrorproc := rfl
@[simp] theorem State.putByte_code (s : State) (a : Int) (b : Byte) : (s.putByte a b).code = s.code := rfl
@[simp] theorem State.putByte_data (s : State) (a : Int) (b : Byte) : (s.putByte a b).data = s.data.write a.toNat b := rfl
@[simp] theorem State.putByte_normalmap (s : State) (a : Int) (b : Byte) : (s.putByte a b).normalmap = s.normalmap := rfl
@[simp] theorem State.putByte_status (s : State) (a : Int) (b : Byte) : (s.putByte a b).status = s.status := rfl
@[simp] theorem State.putByte_header (s : State) (a : Int) (b : Byte) : (s.putByte a b).header = s.header := rfl
@[simp] theorem State.putByte_pending (s : State) (a : Int) (b : Byte) : (s.putByte a b).pending = s.pending := rfl
@[simp] theorem State.putByte_saved (s : State) (a : Int) (b : Byte) : (s.putByte a b).saved = s.saved := rfl
@[simp] theorem State.putByte_sigmap (s : State) (a : Int) (b : Byte) : (s.putByte a b).sigmap = s.sigmap := rfl
@[simp] theorem State.putByte_params (s : State) (a : Int) (b : Byte) : (s.putByte a b).params = s.params := rfl
@[simp] theorem State.putByte_freeCount (s : State) (a : Int) (b : Byte) : (s.putByte a b).freeCount = s.freeCount := rfl
@[simp] theorem State.putByte_host (s : State) (a : Int) (b : Byte) : (s.putByte a b).host = s.host := rfl
@[simp] theorem State.putByte_signals (s : State) (a : Int) (b : Byte) : (s.putByte a b).signals = s.signals := rfl
@[simp] theorem State.putByte_pcI (s : State) (a : Int) (b : Byte) : (s.putByte a b).pcI = s.pcI := rfl
@[simp] theorem State.putByte_lbI (s : State) (a : Int) (b : Byte) : (s.putByte a b).lbI = s.lbI := rfl
@[simp] theorem State.putByte_spI (s : State) (a : Int) (b : Byte) : (s.putByte a b).spI = s.spI := rfl
@[simp] theorem State.putByte_hpI (s : State) (a : Int) (b : Byte) : (s.putByte a b).hpI = s.hpI := rfl
@[simp] theorem State.putByte_pdI (s : State) (a : Int) (b : Byte) : (s.putByte a b).pdI = s.pdI := rfl
@[simp] theorem State.putByte_nproc (s : State) (a : Int) (b : Byte) : (s.putByte a b).nproc = s.nproc := rfl
@[simp] theorem State.putByte_nline (s : State) (a : Int) (b : Byte) : (s.putByte a b).nline = s.nline := rfl
@[simp] theorem State.putByte_maxdata (s : State) (a : Int) (b : Byte) : (s.putByte a b).maxdata = s.maxdata := rfl
@[simp] theorem State.putByte_maxcode (s : State) (a : Int) (b : Byte) : (s.putByte a b).maxcode = s.maxcode := rfl
@[simp] theorem State.putByte_defaultHandling (s : State) (a : Int) (b : Byte) : (s.putByte a b).defaultHandling = s.defaultHandling := rfl
@[simp] theorem State.putByte_okadr (s : State) (a : Int) (b : Byte) (x : Int) : (s.putByte a b).okadr x = s.okadr x := rfl
@[simp] theorem State.putByte_okword (s : State) (a : Int) (b : Byte) (x : Int) : (s.putByte a b).okword x = s.okword x := rfl

@[simp] theorem State.raise_pc (s : State) (n : Byte) : (s.raise n).pc = s.pc := rfl
@[simp] theorem State.raise_lb (s : State) (n : Byte) : (s.raise n).lb = s.lb := rfl
@[simp] theorem State.raise_sp (s : State) (n : Byte) : (s.raise n).sp = s.sp := rfl
@[simp] theorem State.raise_hp (s : State) (n : Byte) : (s.raise n).hp = s.hp := rfl
@[simp] theorem State.raise_pd (s : State) (n : Byte) : (s.raise n).pd = s.pd := rfl
@[simp] theorem State.raise_uerrorlb (s : State) (n : Byte) : (s.raise n).uerrorlb = s.uerrorlb := rfl
@[simp] theorem State.raise_uerrorproc (s : State) (n : Byte) : (s.raise n).uerrorproc = s.uerrorproc := rfl
@[simp] theorem State.raise_code (s : State) (n : Byte) : (s.raise n).code = s.code := rfl
@[simp] theorem State.raise_data (s : State) (n : Byte) : (s.raise n).data = s.data := rfl
@[simp] theorem State.raise_normalmap (s : State) (n : Byte) : (s.raise n).normalmap = s.normalmap := rfl
@[simp] theorem State.raise_status (s : State) (n : Byte) : (s.raise n).status = s.status := rfl
@[simp] theorem State.raise_header (s : State) (n : Byte) : (s.raise n).header = s.header := rfl
@[simp] theorem State.raise_pending (s : State) (n : Byte) : (s.raise n).pending = s.pending ++ [n] := rfl
@[simp] theorem State.raise_saved (s : State) (n : Byte) : (s.raise n).saved = s.saved := rfl
@[simp] theorem State.raise_sigmap (s : State) (n : Byte) : (s.raise n).sigmap = s.sigmap := rfl
@[simp] theorem State.raise_params (s : State) (n : Byte) : (s.raise n).params = s.params := rfl
@[simp] theorem State.raise_freeCount (s : State) (n : Byte) : (s.raise n).freeCount = s.freeCount := rfl
@[simp] theorem State.raise_host (s : State) (n : Byte) : (s.raise n).host = s.host := rfl
@[simp] theorem State.raise_signals (s : State) (n : Byte) : (s.raise n).signals = s.signals := rfl
@[simp] theorem State.raise_pcI (s : State) (n : Byte) : (s.raise n).pcI = s.pcI := rfl
@[simp] theorem State.raise_lbI (s : State) (n : Byte) : (s.raise n).lbI = s.lbI := rfl
@[simp] theorem State.raise_spI (s : State) (n : Byte) : (s.raise n).spI = s.spI := rfl
@[simp] theorem State.raise_hpI (s : State) (n : Byte) : (s.raise n).hpI = s.hpI := rfl
@[simp] theorem State.raise_pdI (s : State) (n : Byte) : (s.raise n).pdI = s.pdI := rfl
@[simp] theorem State.raise_nproc (s : State) (n : Byte) : (s.raise n).nproc = s.nproc := rfl
@[simp] theorem State.raise_nline (s : State) (n : Byte) : (s.raise n).nline = s.nline := rfl
@[simp] theorem State.raise_maxdata (s : State) (n : Byte) : (s.raise n).maxdata = s.maxdata := rfl
@[simp] theorem State.raise_maxcode (s : State) (n : Byte) : (s.raise n).maxcode = s.maxcode := rfl
@[simp] theorem State.raise_defaultHandling (s : State) (n : Byte) : (s.raise n).defaultHandling = s.defaultHandling := rfl
@[simp] theorem State.raise_word (s : State) (n : Byte) (x : Int) : (s.raise n).word x = s.word x := rfl
@[simp] theorem State.raise_byte (s : State) (n : Byte) (x : Int) : (s.raise n).byte x = s.byte x := rfl
@[simp] theorem State.raise_okadr (s : State) (n : Byte) (x : Int) : (s.raise n).okadr x = s.okadr x := rfl
@[simp] theorem State.raise_okword (s : State) (n : Byte) (x : Int) : (s.raise n).okword x = s.okword x := rfl

@[simp] theorem State.stopped_pc (s : State) (st : Status) : (s.stopped st).pc = s.pc := rfl
@[simp] theorem State.stopped_lb (s : State) (st : Status) : (s.stopped st).lb = s.lb := rfl
@[simp] theorem State.stopped_sp (s : State) (st : Status) : (s.stopped st).sp = s.sp := rfl
@[simp] theorem State.stopped_hp (s : State) (st : Status) : (s.stopped st).hp = s.hp := rfl
@[simp] theorem State.stopped_pd (s : State) (st : Status) : (s.stopped st).pd = s.pd := rfl
@[simp] theorem State.stopped_uerrorlb (s : State) (st : Status) : (s.stopped st).uerrorlb = s.uerrorlb := rfl
@[simp] theorem State.stopped_uerrorproc (s : State) (st : Status) : (s.stopped st).uerrorproc = s.uerrorproc := rfl
@[simp] theorem State.stopped_code (s : State) (st : Status) : (s.stopped st).code = s.code := rfl
@[simp] theorem State.stopped_data (s : State) (st : Status) : (s.stopped st).data = s.data := rfl
@[simp] theorem State.stopped_normalmap (s : State) (st : Status) : (s.stopped st).normalmap = s.normalmap := rfl
@[simp] theorem State.stopped_status (s : State) (st : Status) : (s.stopped st).status = st := rfl
@[simp] theorem State.stopped_header (s : State) (st : Status) : (s.stopped st).header = s.header := rfl
@[simp] theorem State.stopped_pending (s : State) (st : Status) : (s.stopped st).pending = [] := rfl
@[simp] theorem State.stopped_saved (s : State) (st : Status) : (s.stopped st).saved = s.saved := rfl
@[simp] theorem State.stopped_sigmap (s : State) (st : Status) : (s.stopped st).sigmap = s.sigmap := rfl
@[simp] theorem State.stopped_params (s : State) (st : Status) : (s.stopped st).params = s.params := rfl
@[simp] theorem State.stopped_freeCount (s : State) (st : Status) : (s.stopped st).freeCount = s.freeCount := rfl
@[simp] theorem State.stopped_host (s : State) (st : Status) : (s.stopped st).host = s.host := rfl
@[simp] theorem State.stopped_signals (s : State) (st : Status) : (s.stopped st).signals = s.signals := rfl
@[simp] theorem State.stopped_pcI (s : State) (st : Status) : (s.stopped st).pcI = s.pcI := rfl
@[simp] theorem State.stopped_lbI (s : State) (st : Status) : (s.stopped st).lbI = s.lbI := rfl
@[simp] theorem State.stopped_spI (s : State) (st : Status) : (s.stopped st).spI = s.spI := rfl
@[simp] theorem State.stopped_hpI (s : State) (st : Status) : (s.stopped st).hpI = s.hpI := rfl
@[simp] theorem State.stopped_pdI (s : State) (st : Status) : (s.stopped st).pdI = s.pdI := rfl
@[simp] theorem State.stopped_nproc (s : State) (st : Status) : (s.stopped st).nproc = s.nproc := rfl
@[simp] theorem State.stopped_nline (s : State) (st : Status) : (s.stopped st).nline = s.nline := rfl
@[simp] theorem State.stopped_maxdata (s : State) (st : Status) : (s.stopped st).maxdata = s.maxdata := rfl
@[simp] theorem State.stopped_maxcode (s : State) (st : Status) : (s.stopped st).maxcode = s.maxcode := rfl
@[simp] theorem State.stopped_defaultHandling (s : State) (st : Status) : (s.stopped st).defaultHandling = s.defaultHandling := rfl
@[simp] theorem State.stopped_word (s : State) (st : Status) (x : Int) : (s.stopped st).word x = s.word x := rfl
@[simp] theorem State.stopped_byte (s : State) (st : Status) (x : Int) : (s.stopped st).byte x = s.byte x := rfl
@[simp] theorem State.stopped_okadr (s : State) (st : Status) (x : Int) : (s.stopped st).okadr x = s.okadr x := rfl
@[simp] theorem State.stopped_okword (s : State) (st : Status) (x : Int) : (s.stopped st).okword x = s.okword x := rfl

@[simp] theorem State.beginTrap_pc (s : State) (l : List Byte) : (s.beginTrap l).pc = s.pc := rfl
@[simp] theorem State.beginTrap_lb (s : State) (l : List Byte) : (s.beginTrap l).lb = s.lb := rfl
@[simp] theorem State.beginTrap_sp (s : State) (l : List Byte) : (s.beginTrap l).sp = s.sp := rfl
@[simp] theorem State.beginTrap_hp (s : State) (l : List Byte) : (s.beginTrap l).hp = s.hp := rfl
@[simp] theorem State.beginTrap_pd (s : State) (l : List Byte) : (s.beginTrap l).pd = s.pd := rfl
@[simp] theorem State.beginTrap_uerrorlb (s : State) (l : List Byte) : (s.beginTrap l).uerrorlb = 0#16 := rfl
@[simp] theorem State.beginTrap_uerrorproc (s : State) (l : List Byte) : (s.beginTrap l).uerrorproc = 0#16 := rfl
@[simp] theorem State.beginTrap_code (s : State) (l : List Byte) : (s.beginTrap l).code = s.code := rfl
@[simp] theorem State.beginTrap_data (s : State) (l : List Byte) : (s.beginTrap l).data = s.data := rfl
@[simp] theorem State.beginTrap_normalmap (s : State) (l : List Byte) : (s.beginTrap l).normalmap = s.normalmap := rfl
@[simp] theorem State.beginTrap_status (s : State) (l : List Byte) : (s.beginTrap l).status = s.status := rfl
@[simp] theorem State.beginTrap_header (s : State) (l : List Byte) : (s.beginTrap l).header = s.header := rfl
@[simp] theorem State.beginTrap_pending (s : State) (l : List Byte) : (s.beginTrap l).pending = [] := rfl
@[simp] theorem State.beginTrap_saved (s : State) (l : List Byte) : (s.beginTrap l).saved = l :: s.saved := rfl
@[simp] theorem State.beginTrap_sigmap (s : State) (l : List Byte) : (s.beginTrap l).sigmap = s.sigmap := rfl
@[simp] theorem State.beginTrap_params (s : State) (l : List Byte) : (s.beginTrap l).params = s.params := rfl
@[simp] theorem State.beginTrap_freeCount (s : State) (l : List Byte) : (s.beginTrap l).freeCount = s.freeCount := rfl
@[simp] theorem State.beginTrap_host (s : State) (l : List Byte) : (s.beginTrap l).host = s.host := rfl
@[simp] theorem State.beginTrap_signals (s : State) (l : List Byte) : (s.beginTrap l).signals = s.signals := rfl
@[simp] theorem State.beginTrap_pcI (s : State) (l : List Byte) : (s.beginTrap l).pcI = s.pcI := rfl
@[simp] theorem State.beginTrap_lbI (s : State) (l : List Byte) : (s.beginTrap l).lbI = s.lbI := rfl
@[simp] theorem State.beginTrap_spI (s : State) (l : List Byte) : (s.beginTrap l).spI = s.spI := rfl
@[simp] theorem State.beginTrap_hpI (s : State) (l : List Byte) : (s.beginTrap l).hpI = s.hpI := rfl
@[simp] theorem State.beginTrap_pdI (s : State) (l : List Byte) : (s.beginTrap l).pdI = s.pdI := rfl
@[simp] theorem State.beginTrap_nproc (s : State) (l : List Byte) : (s.beginTrap l).nproc = s.nproc := rfl
@[simp] theorem State.beginTrap_nline (s : State) (l : List Byte) : (s.beginTrap l).nline = s.nline := rfl
@[simp] theorem State.beginTrap_maxdata (s : State) (l : List Byte) : (s.beginTrap l).maxdata = s.maxdata := rfl
@[simp] theorem State.beginTrap_maxcode (s : State) (l : List Byte) : (s.beginTrap l).maxcode = s.maxcode := rfl
@[simp] theorem State.beginTrap_word (s : State) (l : List Byte) (x : Int) : (s.beginTrap l).word x = s.word x := rfl
@[simp] theorem State.beginTrap_byte (s : State) (l : List Byte) (x : Int) : (s.beginTrap l).byte x = s.byte x := rfl
@[simp] theorem State.beginTrap_okadr (s : State) (l : List Byte) (x : Int) : (s.beginTrap l).okadr x = s.okadr x := rfl
@[simp] theorem State.beginTrap_okword (s : State) (l : List Byte) (x : Int) : (s.beginTrap l).okword x = s.okword x := rfl

end Sys2Proof.Machine
end

