-- ==== Sys2Proof/Laws/Ops.lean ====
section
/-! SUPPORT. One lemma for each shared operation, saying once everything it can do; the registers read back as the
numbers written; a push and a pop on a sound state. -/

namespace Sys2Proof.Machine

/-! ## Sequences of statements -/

theorem Op.bind_of_ok {α β : Type} {m : Op α} {f : α → Op β} {s t : State} {a : α} (h : m s = .ok a t) :
    (m >>= f) s = f a t := by
  show EStateM.bind m f s = _
  simp [EStateM.bind, h]

theorem Op.bind_of_error {α β : Type} {m : Op α} {f : α → Op β} {s t : State} (h : m s = .error () t) :
    (m >>= f) s = .error () t := by
  show EStateM.bind m f s = _
  simp [EStateM.bind, h]

theorem Op.get_bind {β : Type} (f : State → Op β) (s : State) : ((get : Op State) >>= f) s = f s s := rfl

theorem runOp_of_ok {m : Op Unit} {s t : State} (h : m s = .ok () t) : runOp m s = .next t := by
  show (match m s with | .ok _ s' => _ | .error _ s' => _) = _
  rw [h]

theorem runOp_of_error {m : Op Unit} {s t : State} (h : m s = .error () t) : runOp m s = .next t := by
  show (match m s with | .ok _ s' => _ | .error _ s' => _) = _
  rw [h]

/-- An instruction made of statements always has a next state. -/
theorem runOp_next (m : Op Unit) (s : State) : ∃ t, runOp m s = .next t := by
  cases h : m s with
  | ok a t => exact ⟨t, runOp_of_ok h⟩
  | error a t => exact ⟨t, runOp_of_error h⟩

/-! ## Traps (R412, R413) -/

theorem stop_spec {α : Type} (st : Status) (s : State) : (stop st : Op α) s = .error () (s.stopped st) := rfl

theorem trap_spec (n : Byte) (s : State) :
    trap n s = if isFatal n || s.defaultHandling then .error () (s.stopped (.aborted n)) else .ok () (s.raise n) := rfl

theorem trap_of_fatal {n : Byte} (h : isFatal n = true) (s : State) :
    trap n s = .error () (s.stopped (.aborted n)) := by simp [trap_spec, h]

theorem require_spec (c : Bool) (n : Byte) (s : State) : require c n s = if c then .ok () s else trap n s := rfl

/-! ## Register updates (R14) -/

theorem newpc_spec (a : Int) (s : State) :
    newpc a s = if s.okpc a then .ok () (s.setPc a) else .error () (s.stopped (.aborted EPC)) := rfl

theorem newsp_spec (a : Int) (s : State) :
    newsp a s = if s.oksp a then .ok () (s.setSp a) else .error () (s.stopped (.aborted ESTACK)) := rfl

theorem newlb_spec (a : Int) (s : State) :
    newlb a s = if s.oklb a then .ok () (s.setLb a) else .error () (s.stopped (.aborted ESTACK)) := rfl

theorem newhp_spec (a : Int) (s : State) :
    newhp a s = if s.okhp a then .ok () (s.setHp a) else .error () (s.stopped (.aborted EHEAP)) := rfl

/-! ## Data and instruction memory (R12, R13) -/

theorem memb_spec (a : Int) (s : State) :
    memb a s = if s.okadr a then .ok ((s.byte a).toNat : Int) s else .error () (s.stopped (.aborted EPTR)) := rfl

theorem mema_spec (a : Int) (s : State) :
    mema a s = if s.okword a then .ok (adr (s.word a)) s else .error () (s.stopped (.aborted EPTR)) := rfl

theorem memw_spec (a : Int) (s : State) :
    memw a s = if s.okword a then .ok (s16 (s.word a)) s else .error () (s.stopped (.aborted EPTR)) := rfl

theorem storeb_spec (a : Int) (b : Byte) (s : State) :
    storeb a b s = if s.okadr a then .ok () (s.putByte a b) else .error () (s.stopped (.aborted EPTR)) := rfl

theorem store_spec (a v : Int) (s : State) :
    store a v s = if s.okword a then .ok () (s.putWord a v) else .error () (s.stopped (.aborted EPTR)) := rfl

theorem memi_spec (a : Int) (s : State) :
    memi a s = if s.okcode a then .ok (adr (s.codeWord a)) s else .error () (s.stopped (.aborted EPTR)) := rfl

/-! ## Delivery and return (R414, R416) -/

theorem deliver_spec (s : State) :
    deliver s = if s.status = .running then
      (match s.pending with
        | [] => .ok () s
        | n :: rest => if s.defaultHandling then .error () (s.stopped (.aborted n)) else enter n rest s)
      else .ok () s := rfl

theorem restorePending_spec (s : State) :
    restorePending s = .ok () { s with
      pending := (match s.saved with | [] => s.pending | l :: _ => l), saved := s.saved.tail } := by
  unfold restorePending
  cases h : s.saved with
  | nil => cases s; simp_all
  | cons l rest => simp

/-! ## Numbers written to registers and read back -/

theorem adr_u16 {a : Int} (h0 : 0 ≤ a) (h1 : a < 65536) : adr (u16 a) = a := by
  unfold adr u16
  rw [BitVec.toNat_ofInt]
  omega

theorem State.spI_setSp (s : State) {a : Int} (h0 : -2 ≤ a) (h1 : a < 65534) : (s.setSp a).spI = a := by
  have h : (BitVec.ofInt 16 a + 2#16) = BitVec.ofInt 16 (a + 2) := by
    rw [BitVec.ofInt_add]; rfl
  show adr (BitVec.ofInt 16 a + 2#16) - 2 = a
  rw [h]
  have := adr_u16 (a := a + 2) (by omega) (by omega)
  unfold u16 at this
  omega

theorem State.lbI_setLb (s : State) {a : Int} (h0 : 0 ≤ a) (h1 : a < 65536) : (s.setLb a).lbI = a := adr_u16 h0 h1
theorem State.hpI_setHp (s : State) {a : Int} (h0 : 0 ≤ a) (h1 : a < 65536) : (s.setHp a).hpI = a := adr_u16 h0 h1
theorem State.pcI_setPc (s : State) {a : Int} (h0 : 0 ≤ a) (h1 : a < 65536) : (s.setPc a).pcI = a := adr_u16 h0 h1

/-! ## What soundness of a state says about its registers -/

theorem adr_lt (w : Word) : adr w < 65536 := by
  unfold adr
  have := w.isLt
  omega

theorem adr_nonneg (w : Word) : 0 ≤ adr w := Int.natCast_nonneg _

/-- The register facts of a sound state (R22 to R25, decision D2), as integer inequalities. -/
theorem State.wf_registers {s : State} (h : s.wf = true) :
    0 ≤ s.lbI ∧ -2 ≤ s.spI ∧ s.lbI % 2 = 0 ∧ s.spI % 2 = 0 ∧ s.hpI % 2 = 0 ∧ s.lbI ≤ s.spI + 2 ∧ s.spI < s.hpI
      ∧ s.hpI ≤ s.maxdata + 1 ∧ s.maxdata ≤ 65533 ∧ s.maxdata % 2 = 1 ∧ 0 ≤ s.pcI ∧ s.pcI ≤ s.pdI := by
  simp only [State.wf, Params.wf, Bool.and_eq_true, decide_eq_true_eq, beq_iff_eq] at h
  obtain ⟨⟨⟨⟨⟨⟨⟨⟨⟨⟨⟨⟨⟨⟨hp, _⟩, _⟩, _⟩, _⟩, _⟩, hl⟩, hs⟩, hh⟩, hls⟩, hsh⟩, hhm⟩, hpc⟩, _⟩, _⟩ := h
  have := adr_nonneg s.lb
  have := adr_nonneg (s.sp + 2#16)
  have := adr_nonneg s.pc
  unfold State.maxdata at *
  refine ⟨by assumption, by unfold State.spI; omega, hl, hs, hh, hls, hsh, hhm, by omega, by omega, by assumption, hpc⟩

/-! ## Push and pop on a sound state (R15) -/

/-- A push stores above the stack, or stops the machine when it meets the heap. -/
theorem push_spec {s : State} (h : s.wf = true) (v : Int) :
    push v s = if s.room 2 then .ok () (s.pushed v) else .error () (s.stopped (.aborted ESTACK)) := by
  obtain ⟨h1, h2, h3, h4, h5, h6, h7, h8, h9, h10, _⟩ := State.wf_registers h
  have hsp : s.oksp (s.spI + 2) = s.room 2 := by
    simp only [State.oksp, State.room]
    rw [decide_eq_true (show s.lbI - 2 ≤ s.spI + 2 by omega), decide_eq_true (show (s.spI + 2) % 2 = 0 by omega)]
    simp
  show ((get : Op State) >>= fun s => newsp (s.spI + 2) >>= fun _ => store (s.spI + 2) v) s = _
  rw [Op.get_bind]
  by_cases hr : s.room 2 = true
  · have hn : newsp (s.spI + 2) s = .ok () (s.setSp (s.spI + 2)) := by rw [newsp_spec, hsp, hr]; rfl
    have hlt : s.spI + 2 < s.hpI := by simpa [State.room] using hr
    have hw : (s.setSp (s.spI + 2)).okword (s.spI + 2) = true := by
      have he : (s.setSp (s.spI + 2)).spI = s.spI + 2 := State.spI_setSp s (by omega) (by omega)
      have hm : (s.setSp (s.spI + 2)).maxdata = s.maxdata := rfl
      simp only [State.okword, State.okadr, he, hm, Bool.and_eq_true, decide_eq_true_eq, Bool.not_eq_true',
        Bool.and_eq_false_iff, decide_eq_false_iff_not]
      omega
    rw [Op.bind_of_ok hn, store_spec, hw, hr]
    rfl
  · have hf : s.room 2 = false := by simpa using hr
    have hn : newsp (s.spI + 2) s = .error () (s.stopped (.aborted ESTACK)) := by rw [newsp_spec, hsp, hf]; rfl
    rw [Op.bind_of_error hn, hf]
    rfl

/-- The word on top of the stack may be read where the frame holds one. -/
theorem State.okword_top {s : State} (h : s.wf = true) (hs : 0 ≤ s.spI) : s.okword s.spI = true := by
  obtain ⟨h1, h2, h3, h4, h5, h6, h7, h8, h9, h10, _⟩ := State.wf_registers h
  simp only [State.okword, State.okadr, Bool.and_eq_true, decide_eq_true_eq, Bool.not_eq_true', Bool.and_eq_false_iff,
    decide_eq_false_iff_not]
  omega

/-- A pop of a signed word where the frame holds one. -/
theorem popw_spec {s : State} (h : s.wf = true) (hh : s.has 2 = true) : popw s = .ok (s.top 0) (s.drop 2) := by
  obtain ⟨h1, h2, h3, h4, h5, h6, h7, h8, h9, h10, _⟩ := State.wf_registers h
  have hb : s.lbI ≤ s.spI := by
    have : s.lbI ≤ s.spI + 2 - 2 := by simpa [State.has] using hh
    omega
  have hm : memw s.spI s = .ok (s16 (s.word s.spI)) s := by
    rw [memw_spec, State.okword_top h (by omega)]; rfl
  have hn : newsp (s.spI - 2) s = .ok () (s.setSp (s.spI - 2)) := by
    rw [newsp_spec]
    have : s.oksp (s.spI - 2) = true := by
      simp only [State.oksp, Bool.and_eq_true, decide_eq_true_eq]
      omega
    rw [this]; rfl
  show ((get : Op State) >>= fun s => memw s.spI >>= fun r => newsp (s.spI - 2) >>= fun _ => pure r) s = _
  rw [Op.get_bind, Op.bind_of_ok hm, Op.bind_of_ok hn]
  show EStateM.Result.ok _ _ = _
  simp [State.top, State.drop]

/-- A pop of an address where the frame holds a word. -/
theorem popa_spec {s : State} (h : s.wf = true) (hh : s.has 2 = true) : popa s = .ok (s.topA 0) (s.drop 2) := by
  obtain ⟨h1, h2, h3, h4, h5, h6, h7, h8, h9, h10, _⟩ := State.wf_registers h
  have hb : s.lbI ≤ s.spI := by
    have : s.lbI ≤ s.spI + 2 - 2 := by simpa [State.has] using hh
    omega
  have hm : mema s.spI s = .ok (adr (s.word s.spI)) s := by
    rw [mema_spec, State.okword_top h (by omega)]; rfl
  have hn : newsp (s.spI - 2) s = .ok () (s.setSp (s.spI - 2)) := by
    rw [newsp_spec]
    have : s.oksp (s.spI - 2) = true := by
      simp only [State.oksp, Bool.and_eq_true, decide_eq_true_eq]
      omega
    rw [this]; rfl
  show ((get : Op State) >>= fun s => mema s.spI >>= fun r => newsp (s.spI - 2) >>= fun _ => pure r) s = _
  rw [Op.get_bind, Op.bind_of_ok hm, Op.bind_of_ok hn]
  show EStateM.Result.ok _ _ = _
  simp [State.topA, State.drop]

/-! ## Several words popped (R401) -/

/-- Dropping an even number of bytes the frame holds leaves a sound state. -/
theorem State.drop_wf {s : State} {n : Int} (h : s.wf = true) (h0 : 0 ≤ n) (hn : n % 2 = 0) (hh : s.has n = true) :
    (s.drop n).wf = true ∧ (s.drop n).spI = s.spI - n := by
  obtain ⟨h1, h2, h3, h4, h5, h6, h7, h8, h9, h10, _⟩ := State.wf_registers h
  have hb : s.lbI ≤ s.spI + 2 - n := by simpa [State.has] using hh
  have he : (s.drop n).spI = s.spI - n := State.spI_setSp s (by omega) (by omega)
  refine ⟨?_, he⟩
  simp only [State.wf, Bool.and_eq_true, decide_eq_true_eq] at h ⊢
  obtain ⟨⟨⟨⟨⟨⟨⟨⟨⟨⟨⟨⟨⟨⟨a1, a2⟩, a3⟩, a4⟩, a5⟩, a6⟩, a7⟩, _⟩, a9⟩, _⟩, _⟩, a12⟩, a13⟩, a14⟩, a15⟩ := h
  have hl : (s.drop n).lbI = s.lbI := rfl
  have hp : (s.drop n).hpI = s.hpI := rfl
  exact ⟨⟨⟨⟨⟨⟨⟨⟨⟨⟨⟨⟨⟨⟨a1, a2⟩, a3⟩, a4⟩, a5⟩, a6⟩, a7⟩, by omega⟩, a9⟩, by omega⟩, by omega⟩, a12⟩, a13⟩, a14⟩, a15⟩

/-- The words below the top are the top words once the top is dropped. -/
theorem State.tops_drop {s : State} (he : (s.drop 2).spI = s.spI - 2) (n : Nat) :
    ∀ i : Int, (s.drop 2).tops i n = s.tops (i + 1) n := by
  induction n with
  | zero => intro i; rfl
  | succ n ih =>
    intro i
    have ht : (s.drop 2).top i = s.top (i + 1) := by
      show s16 (s.word ((s.drop 2).spI - 2 * i)) = s16 (s.word (s.spI - 2 * (i + 1)))
      rw [he, show s.spI - 2 - 2 * i = s.spI - 2 * (i + 1) by omega]
    show (s.drop 2).top i :: (s.drop 2).tops (i + 1) n = s.top (i + 1) :: s.tops (i + 1 + 1) n
    rw [ht, ih]

/-- Writing SP's own value changes nothing. -/
theorem State.setSp_spI (s : State) : s.setSp s.spI = s := by
  have h : BitVec.ofInt 16 (adr (s.sp + 2#16)) = s.sp + 2#16 := by
    apply BitVec.eq_of_toNat_eq
    unfold adr
    rw [BitVec.toNat_ofInt]
    have := (s.sp + 2#16).isLt
    omega
  have hb : BitVec.ofInt 16 s.spI = s.sp := by
    show BitVec.ofInt 16 (adr (s.sp + 2#16) - 2) = s.sp
    rw [Int.sub_eq_add_neg, BitVec.ofInt_add, h, BitVec.add_assoc]
    simp
  show { s with sp := BitVec.ofInt 16 s.spI } = s
  rw [hb]

/-- The parameters of a monitor call are the words on top of the stack, in stacking order. -/
theorem popParams_spec (n : Nat) : ∀ {s : State}, s.wf = true → s.has (2 * n) = true →
    popParams n s = .ok ((s.tops 0 n).map u16).reverse (s.drop (2 * n)) := by
  induction n with
  | zero =>
    intro s _ _
    show EStateM.Result.ok _ s = _
    rw [show s.drop (2 * (0 : Nat)) = s by simp [State.drop, State.setSp_spI]]
    rfl
  | succ n ih =>
    intro s h hh
    have hb : s.lbI ≤ s.spI + 2 - 2 * ((n : Int) + 1) := by simpa [State.has] using hh
    have h2 : s.has 2 = true := by simp only [State.has, decide_eq_true_eq]; omega
    obtain ⟨hw, he⟩ := State.drop_wf h (by omega) (by omega) h2
    have hl : (s.drop 2).lbI = s.lbI := rfl
    have hd : (s.drop 2).drop (2 * n) = s.drop (2 * (n + 1 : Nat)) := by
      show (s.drop 2).setSp ((s.drop 2).spI - 2 * n) = s.setSp (s.spI - 2 * (n + 1 : Nat))
      rw [he, show s.spI - 2 - 2 * (n : Int) = s.spI - 2 * (n + 1 : Nat) by omega]
      rfl
    show (popw >>= fun w => popParams n >>= fun ps => (pure (ps ++ [u16 w]) : Op (List Word))) s = _
    rw [Op.bind_of_ok (popw_spec h h2),
      Op.bind_of_ok (ih hw (by simp only [State.has, decide_eq_true_eq]; omega)), State.tops_drop he, hd]
    show EStateM.Result.ok _ _ = _
    simp [State.tops]

/-- The host's part of a monitor call: the result words, the bytes stored, the host's next state (R400, R408). -/
theorem hostCall_spec (c : MonCall) (ps : List Word) (s : State) :
    hostCall c ps s = .ok (callResults s c ps (Config.monHost s.host c.code.toNat ps s.data))
      { s with
        data := s.storeAdmitted (bufferAddress c ps)
          (hostBytes c ps (Config.monHost s.host c.code.toNat ps s.data)) s.data
        host := (Config.monHost s.host c.code.toNat ps s.data).host } := rfl

/-! ## Procedure numbers (decision D14) -/

/-- A number of the procedure table, or the fatal EPROC. -/
theorem requireProc_spec (n : Int) (s : State) :
    requireProc n s =
      if 0 ≤ n ∧ n < s.nproc then .ok () s else .error () (s.stopped (.aborted EPROC)) := by
  have h : isFatal EPROC = true := by decide
  unfold requireProc
  rw [require_spec, trap_of_fatal h]
  simp only [Bool.and_eq_true, decide_eq_true_eq]

/-! ## Results of double arithmetic (R244 to R249) -/

/-- DAD, DSB and DMU: the traps are raised before the result is pushed, and default handling stops the machine. -/
theorem pushDoubleResult_spec (op : DoubleOp) (ds dt exact : Int) (s : State) :
    pushDoubleResult op ds dt exact s =
      if reportsDoubleOverflow op ds dt exact then
        (if s.defaultHandling then .error () (s.stopped (.aborted EDOVFL))
          else pushd (Config.dblResult op ds dt exact) (s.raise EDOVFL))
      else pushd (Config.dblResult op ds dt exact) s := by
  have hr : require (!reportsDoubleOverflow op ds dt exact) EDOVFL s =
      if reportsDoubleOverflow op ds dt exact then
        (if s.defaultHandling then .error () (s.stopped (.aborted EDOVFL)) else .ok () (s.raise EDOVFL))
      else .ok () s := by
    rw [require_spec, trap_spec, show isFatal EDOVFL = false from by decide]
    cases reportsDoubleOverflow op ds dt exact <;> rfl
  show (require (!reportsDoubleOverflow op ds dt exact) EDOVFL >>= fun _ => pushd (Config.dblResult op ds dt exact)) s = _
  cases h : reportsDoubleOverflow op ds dt exact with
  | false => exact Op.bind_of_ok (by simpa [h] using hr)
  | true =>
    cases hd : s.defaultHandling with
    | false => exact Op.bind_of_ok (by simpa [h, hd] using hr)
    | true => exact Op.bind_of_error (by simpa [h, hd] using hr)

/-- DDV and DMD: nothing is pushed for a zero divisor. -/
theorem pushDoubleQuotient_spec (dt exact : Int) (s : State) :
    pushDoubleQuotient dt exact s =
      if dt = 0 then
        (if s.defaultHandling then .error () (s.stopped (.aborted EIDIVZ)) else .ok () (s.raise EIDIVZ))
      else pushd exact s := by
  have h : isFatal EIDIVZ = false := by decide
  unfold pushDoubleQuotient
  split
  · simp [trap_spec, h]
  · rfl

/-! ## Every memory operation keeps the canonical form -/

theorem State.data_wf_putWord {s : State} (h : s.data.wf = true) (a v : Int) : (s.putWord a v).data.wf = true :=
  Memory.wf_writeWord s.data a.toNat (u16 v) h

theorem State.data_wf_putByte {s : State} (h : s.data.wf = true) (a : Int) (b : Byte) :
    (s.putByte a b).data.wf = true := Memory.wf_write s.data a.toNat b h

/-- What the host stores for a monitor call keeps the canonical form (R408). -/
theorem State.storeAdmitted_wf (s : State) (bs : List Byte) :
    ∀ (a : Nat) (m : Memory), m.wf = true → (s.storeAdmitted a bs m).wf = true := by
  induction bs with
  | nil => intro a m h; exact h
  | cons b bs ih =>
    intro a m h
    unfold State.storeAdmitted
    apply ih
    split
    · exact Memory.wf_write m a b h
    · exact h

/-- Memory is in canonical form after reset. -/
theorem State.reset_memory_wf : State.reset.data.wf = true ∧ State.reset.code.wf = true := by decide

end Sys2Proof.Machine
end

