-- ==== Sys2Proof/Laws/PerInstr.lean ====
section
/-! SUPPORT. One family of lemmas over the instructions: the line of the table of R112 that belongs to a well-formed
instruction holds it, with the operand the line stores. -/

namespace Sys2Proof.Laws.RowOf

open Sys2Proof

/-- The line of an instruction carries its number and builds it from its unscaled operand; the two forms that have no
line are the escape byte and the illegal instructions. -/
def Statement (i : Instr) : Prop :=
  i.wf = true →
    match i.row with
    | some r => r.number = i.line ∧ r.build (r.unscale i.operand) = i
    | none => i = .escape ∨ ∃ op, i = .illegal op

/-- Scaling by two is undone on even operands (R106, flag `x`). -/
theorem scale_x {k : Int} (h : okX k = true) : 2 * (k / 2) = k := by
  simp only [okX, Bool.and_eq_true, decide_eq_true_eq] at h
  omega

/-- Scaling is undone on sizes (R106, flag `y`). -/
theorem scale_y {k : Int} (h : okY k = true) :
    (if (if k = 1 then 0 else k / 2) = 0 then 1 else 2 * (if k = 1 then 0 else k / 2)) = k := by
  simp only [okY, okX, Bool.or_eq_true, Bool.and_eq_true, decide_eq_true_eq] at h
  split_ifs <;> omega

theorem aar (k : Int) : Statement (.aar k) := fun h => ⟨rfl, congrArg Instr.aar (scale_x h)⟩
theorem aas : Statement .aas := fun _ => ⟨rfl, rfl⟩
theorem add : Statement .add := fun _ => ⟨rfl, rfl⟩
theorem adi (k : Int) : Statement (.adi k) := fun _ => ⟨rfl, rfl⟩
theorem and (k : Int) : Statement (.and k) := fun h => ⟨rfl, congrArg Instr.and (scale_x h)⟩
theorem ans : Statement .ans := fun _ => ⟨rfl, rfl⟩
theorem beg (k : Int) : Statement (.beg k) := fun h => ⟨rfl, congrArg Instr.beg (scale_x h)⟩
theorem beq (k : Int) : Statement (.beq k) := fun _ => ⟨rfl, rfl⟩
theorem bes : Statement .bes := fun _ => ⟨rfl, rfl⟩
theorem bge (k : Int) : Statement (.bge k) := fun _ => ⟨rfl, rfl⟩
theorem bgt (k : Int) : Statement (.bgt k) := fun _ => ⟨rfl, rfl⟩
theorem ble (k : Int) : Statement (.ble k) := fun _ => ⟨rfl, rfl⟩
theorem blm (k : Int) : Statement (.blm k) := fun h => ⟨rfl, congrArg Instr.blm (scale_x h)⟩
theorem bls : Statement .bls := fun _ => ⟨rfl, rfl⟩
theorem blt (k : Int) : Statement (.blt k) := fun _ => ⟨rfl, rfl⟩
theorem bne (k : Int) : Statement (.bne k) := fun _ => ⟨rfl, rfl⟩
theorem brb (k : Int) : Statement (.brb k) := fun _ => ⟨rfl, rfl⟩
theorem brf (k : Int) : Statement (.brf k) := fun _ => ⟨rfl, rfl⟩
theorem cal (k : Int) : Statement (.cal k) := fun _ => ⟨rfl, rfl⟩
theorem cas : Statement .cas := fun _ => ⟨rfl, rfl⟩
theorem cdi : Statement .cdi := fun _ => ⟨rfl, rfl⟩
theorem cdf : Statement .cdf := fun _ => ⟨rfl, rfl⟩
theorem cfd : Statement .cfd := fun _ => ⟨rfl, rfl⟩
theorem cfi : Statement .cfi := fun _ => ⟨rfl, rfl⟩
theorem cid : Statement .cid := fun _ => ⟨rfl, rfl⟩
theorem cif : Statement .cif := fun _ => ⟨rfl, rfl⟩
theorem cmd : Statement .cmd := fun _ => ⟨rfl, rfl⟩
theorem cmf : Statement .cmf := fun _ => ⟨rfl, rfl⟩
theorem cmi : Statement .cmi := fun _ => ⟨rfl, rfl⟩
theorem cmp : Statement .cmp := fun _ => ⟨rfl, rfl⟩
theorem cms : Statement .cms := fun _ => ⟨rfl, rfl⟩
theorem cmu (k : Int) : Statement (.cmu k) := fun h => ⟨rfl, congrArg Instr.cmu (scale_x h)⟩
theorem com (k : Int) : Statement (.com k) := fun h => ⟨rfl, congrArg Instr.com (scale_x h)⟩
theorem cos : Statement .cos := fun _ => ⟨rfl, rfl⟩
theorem csa : Statement .csa := fun _ => ⟨rfl, rfl⟩
theorem csb : Statement .csb := fun _ => ⟨rfl, rfl⟩
theorem dad : Statement .dad := fun _ => ⟨rfl, rfl⟩
theorem ddv : Statement .ddv := fun _ => ⟨rfl, rfl⟩
theorem dec : Statement .dec := fun _ => ⟨rfl, rfl⟩
theorem dee (k : Int) : Statement (.dee k) := fun h => ⟨rfl, congrArg Instr.dee (scale_x h)⟩
theorem del (k : Int) : Statement (.del k) := fun h => ⟨rfl, congrArg Instr.del (scale_x h)⟩
theorem div : Statement .div := fun _ => ⟨rfl, rfl⟩
theorem dmd : Statement .dmd := fun _ => ⟨rfl, rfl⟩
theorem dmu : Statement .dmu := fun _ => ⟨rfl, rfl⟩
theorem dsb : Statement .dsb := fun _ => ⟨rfl, rfl⟩
theorem dup (k : Int) : Statement (.dup k) := fun h => ⟨rfl, congrArg Instr.dup (scale_x h)⟩
theorem dus : Statement .dus := fun _ => ⟨rfl, rfl⟩
theorem exg : Statement .exg := fun _ => ⟨rfl, rfl⟩
theorem fad : Statement .fad := fun _ => ⟨rfl, rfl⟩
theorem fdv : Statement .fdv := fun _ => ⟨rfl, rfl⟩
theorem fef : Statement .fef := fun _ => ⟨rfl, rfl⟩
theorem fif : Statement .fif := fun _ => ⟨rfl, rfl⟩
theorem fmu : Statement .fmu := fun _ => ⟨rfl, rfl⟩
theorem fsb : Statement .fsb := fun _ => ⟨rfl, rfl⟩
theorem hlt : Statement .hlt := fun _ => ⟨rfl, rfl⟩
theorem inc : Statement .inc := fun _ => ⟨rfl, rfl⟩
theorem ine (k : Int) : Statement (.ine k) := fun h => ⟨rfl, congrArg Instr.ine (scale_x h)⟩
theorem inl (k : Int) : Statement (.inl k) := fun h => ⟨rfl, congrArg Instr.inl (scale_x h)⟩
theorem inn (k : Int) : Statement (.inn k) := fun h => ⟨rfl, congrArg Instr.inn (scale_x h)⟩
theorem ins : Statement .ins := fun _ => ⟨rfl, rfl⟩
theorem ior (k : Int) : Statement (.ior k) := fun h => ⟨rfl, congrArg Instr.ior (scale_x h)⟩
theorem ios : Statement .ios := fun _ => ⟨rfl, rfl⟩
theorem lae (k : Int) : Statement (.lae k) := fun h => ⟨rfl, congrArg Instr.lae (scale_x h)⟩
theorem lai (k : Int) : Statement (.lai k) := fun h => ⟨rfl, congrArg Instr.lai (scale_y h)⟩
theorem lal (k : Int) : Statement (.lal k) := fun h => ⟨rfl, congrArg Instr.lal (scale_x h)⟩
theorem lar (k : Int) : Statement (.lar k) := fun h => ⟨rfl, congrArg Instr.lar (scale_x h)⟩
theorem las : Statement .las := fun _ => ⟨rfl, rfl⟩
theorem lde (k : Int) : Statement (.lde k) := fun h => ⟨rfl, congrArg Instr.lde (scale_x h)⟩
theorem ldf (k : Int) : Statement (.ldf k) := fun h => ⟨rfl, congrArg Instr.ldf (scale_x h)⟩
theorem ldl (k : Int) : Statement (.ldl k) := fun h => ⟨rfl, congrArg Instr.ldl (scale_x h)⟩
theorem lex (k : Int) : Statement (.lex k) := fun _ => ⟨rfl, rfl⟩
theorem lin (k : Int) : Statement (.lin k) := fun _ => ⟨rfl, rfl⟩
theorem lnc (k : Int) : Statement (.lnc k) := fun _ => ⟨rfl, rfl⟩
theorem lni : Statement .lni := fun _ => ⟨rfl, rfl⟩
theorem loc (k : Int) : Statement (.loc k) := fun _ => ⟨rfl, rfl⟩
theorem loe (k : Int) : Statement (.loe k) := fun h => ⟨rfl, congrArg Instr.loe (scale_x h)⟩
theorem lof (k : Int) : Statement (.lof k) := fun h => ⟨rfl, congrArg Instr.lof (scale_x h)⟩
theorem loi (k : Int) : Statement (.loi k) := fun h => ⟨rfl, congrArg Instr.loi (scale_y h)⟩
theorem lol (k : Int) : Statement (.lol k) := fun h => ⟨rfl, congrArg Instr.lol (scale_x h)⟩
theorem lop (k : Int) : Statement (.lop k) := fun h => ⟨rfl, congrArg Instr.lop (scale_x h)⟩
theorem lor (k : Int) : Statement (.lor k) := fun _ => ⟨rfl, rfl⟩
theorem los : Statement .los := fun _ => ⟨rfl, rfl⟩
theorem lsa (k : Int) : Statement (.lsa k) := fun _ => ⟨rfl, rfl⟩
theorem mod : Statement .mod := fun _ => ⟨rfl, rfl⟩
theorem mon : Statement .mon := fun _ => ⟨rfl, rfl⟩
theorem mrk (k : Int) : Statement (.mrk k) := fun _ => ⟨rfl, rfl⟩
theorem mrs : Statement .mrs := fun _ => ⟨rfl, rfl⟩
theorem mrx (k : Int) : Statement (.mrx k) := fun _ => ⟨rfl, rfl⟩
theorem mul : Statement .mul := fun _ => ⟨rfl, rfl⟩
theorem mxs : Statement .mxs := fun _ => ⟨rfl, rfl⟩
theorem neg : Statement .neg := fun _ => ⟨rfl, rfl⟩
theorem nop : Statement .nop := fun _ => ⟨rfl, rfl⟩
theorem pad : Statement .pad := fun _ => ⟨rfl, rfl⟩
theorem psb : Statement .psb := fun _ => ⟨rfl, rfl⟩
theorem rck (k : Int) : Statement (.rck k) := fun h => ⟨rfl, congrArg Instr.rck (scale_x h)⟩
theorem rcs : Statement .rcs := fun _ => ⟨rfl, rfl⟩
theorem res : Statement .res := fun _ => ⟨rfl, rfl⟩
theorem ret (k : Int) : Statement (.ret k) := fun h => ⟨rfl, congrArg Instr.ret (scale_x h)⟩
theorem rol : Statement .rol := fun _ => ⟨rfl, rfl⟩
theorem ror : Statement .ror := fun _ => ⟨rfl, rfl⟩
theorem rtt : Statement .rtt := fun _ => ⟨rfl, rfl⟩
theorem sai (k : Int) : Statement (.sai k) := fun h => ⟨rfl, congrArg Instr.sai (scale_y h)⟩
theorem sar (k : Int) : Statement (.sar k) := fun h => ⟨rfl, congrArg Instr.sar (scale_x h)⟩
theorem sas : Statement .sas := fun _ => ⟨rfl, rfl⟩
theorem sde (k : Int) : Statement (.sde k) := fun h => ⟨rfl, congrArg Instr.sde (scale_x h)⟩
theorem sdf (k : Int) : Statement (.sdf k) := fun h => ⟨rfl, congrArg Instr.sdf (scale_x h)⟩
theorem sdl (k : Int) : Statement (.sdl k) := fun h => ⟨rfl, congrArg Instr.sdl (scale_x h)⟩
theorem ses : Statement .ses := fun _ => ⟨rfl, rfl⟩
theorem xset (k : Int) : Statement (.xset k) := fun h => ⟨rfl, congrArg Instr.xset (scale_x h)⟩
theorem shl : Statement .shl := fun _ => ⟨rfl, rfl⟩
theorem shr : Statement .shr := fun _ => ⟨rfl, rfl⟩
theorem sig : Statement .sig := fun _ => ⟨rfl, rfl⟩
theorem ste (k : Int) : Statement (.ste k) := fun h => ⟨rfl, congrArg Instr.ste (scale_x h)⟩
theorem stf (k : Int) : Statement (.stf k) := fun h => ⟨rfl, congrArg Instr.stf (scale_x h)⟩
theorem sti (k : Int) : Statement (.sti k) := fun h => ⟨rfl, congrArg Instr.sti (scale_y h)⟩
theorem stl (k : Int) : Statement (.stl k) := fun h => ⟨rfl, congrArg Instr.stl (scale_x h)⟩
theorem stp (k : Int) : Statement (.stp k) := fun h => ⟨rfl, congrArg Instr.stp (scale_x h)⟩
theorem str (k : Int) : Statement (.str k) := fun _ => ⟨rfl, rfl⟩
theorem sts : Statement .sts := fun _ => ⟨rfl, rfl⟩
theorem sub : Statement .sub := fun _ => ⟨rfl, rfl⟩
theorem teq : Statement .teq := fun _ => ⟨rfl, rfl⟩
theorem tge : Statement .tge := fun _ => ⟨rfl, rfl⟩
theorem tgt : Statement .tgt := fun _ => ⟨rfl, rfl⟩
theorem tle : Statement .tle := fun _ => ⟨rfl, rfl⟩
theorem tlt : Statement .tlt := fun _ => ⟨rfl, rfl⟩
theorem tne : Statement .tne := fun _ => ⟨rfl, rfl⟩
theorem trp : Statement .trp := fun _ => ⟨rfl, rfl⟩
theorem xor (k : Int) : Statement (.xor k) := fun h => ⟨rfl, congrArg Instr.xor (scale_x h)⟩
theorem xos : Statement .xos := fun _ => ⟨rfl, rfl⟩
theorem zeq (k : Int) : Statement (.zeq k) := fun _ => ⟨rfl, rfl⟩
theorem zge (k : Int) : Statement (.zge k) := fun _ => ⟨rfl, rfl⟩
theorem zgt (k : Int) : Statement (.zgt k) := fun _ => ⟨rfl, rfl⟩
theorem zle (k : Int) : Statement (.zle k) := fun _ => ⟨rfl, rfl⟩
theorem zlt (k : Int) : Statement (.zlt k) := fun _ => ⟨rfl, rfl⟩
theorem zne (k : Int) : Statement (.zne k) := fun _ => ⟨rfl, rfl⟩
theorem zre (k : Int) : Statement (.zre k) := fun h => ⟨rfl, congrArg Instr.zre (scale_x h)⟩
theorem zrl (k : Int) : Statement (.zrl k) := fun h => ⟨rfl, congrArg Instr.zrl (scale_x h)⟩
theorem escape : Statement .escape := fun _ => Or.inl rfl
theorem illegal (op : Byte) : Statement (.illegal op) := fun _ => Or.inr ⟨op, rfl⟩

end Sys2Proof.Laws.RowOf
end

