-- ==== Sys2Proof/Tests/Slice0.lean ====
section
/-! SUPPORT. Checks of the model: ill-formed terms are refused, words written out from the encodings of the rules decode
to their instructions, the vectors of 95_test_vectors.md hold, and the hypotheses of every statement can be met. -/

namespace Sys2Proof.Tests

open Sys2Proof Sys2Proof.Machine

/-! ## Ill-formed terms (R104, R106, R115) -/

theorem test_wf_refuses_wide_operand : (Instr.loc 32768).wf = false ∧ (Instr.loc (-32769)).wf = false := by decide
theorem test_wf_refuses_odd_operand : (Instr.lol 3).wf = false ∧ (Instr.lol 65536).wf = false := by decide
theorem test_wf_refuses_size_zero : (Instr.loi 0).wf = false ∧ (Instr.sti 3).wf = false := by decide
theorem test_wf_refuses_assigned_illegal : (Instr.illegal 84#8).wf = false ∧ (Instr.illegal 123#8).wf = false := by
  decide
theorem test_wf_accepts_the_bounds :
    (Instr.loc (-32768)).wf = true ∧ (Instr.lol (-65536)).wf = true ∧ (Instr.loi 1).wf = true
      ∧ (Instr.illegal 255#8).wf = true := by decide

/-! ## Decoding, from the "Encoding:" line of each rule -/

/-- These bytes, all of them, are this instruction in a context. -/
def decodesTo (normal : Bool) (bs : List Nat) (i : Instr) : Bool :=
  decide (decode normal (bs.map (BitVec.ofNat 8)) = .instr i bs.length)

/-- Encodings of rules R200 to R219: first and last mini, shortie and long form. -/
def loadWords : List (List Nat × Instr) := [
  ([1], .loc 0), ([33], .loc 32), ([34, 200], .loc 200), ([35, 200], .loc 456), ([36, 254, 3], .loc (-509)),
  ([37], .lnc 1), ([38, 200], .lnc 200), ([0, 108, 254, 3], .lnc (-509)), ([39], .lol 0), ([54], .lol 30),
  ([55, 200], .lol 400), ([0, 56, 254, 3], .lol (-1018)), ([56], .loe 0), ([75], .loe 38), ([76, 200], .loe 400),
  ([77, 200], .loe 912), ([78, 200], .loe 1424), ([79, 200], .loe 1936), ([80, 254, 3], .loe (-1018)),
  ([162], .lop 0), ([163], .lop 2), ([164, 200], .lop 400), ([0, 57, 254, 3], .lop (-1018)), ([0, 115, 0], .lai 1),
  ([0, 115, 200], .lai 400), ([0, 116, 0, 0], .lai 1), ([0, 116, 254, 3], .lai (-1018)), ([81], .lof 2),
  ([89], .lof 18), ([90, 200], .lof 400), ([91, 254, 3], .lof (-1018)), ([92], .lal 0), ([98], .lal 12),
  ([99, 200], .lal 400), ([0, 48, 254, 3], .lal (-1018)), ([100], .lae 0), ([112], .lae 24), ([113, 200], .lae 400),
  ([114, 200], .lae 912), ([115, 200], .lae 1424), ([116, 200], .lae 1936), ([117, 200], .lae 2448),
  ([118, 200], .lae 2960), ([119, 200], .lae 3472), ([120, 200], .lae 3984), ([121, 200], .lae 4496),
  ([122, 254, 3], .lae (-1018)), ([141], .lex 1), ([142], .lex 2), ([0, 53, 200], .lex 200),
  ([0, 54, 254, 3], .lex (-509)), ([123], .loi 1), ([127], .loi 8), ([128, 0], .loi 1), ([128, 200], .loi 400),
  ([0, 55, 0, 0], .loi 1), ([0, 55, 254, 3], .loi (-1018)), ([0, 59], .los), ([148], .ldl 0), ([154], .ldl 12),
  ([155, 200], .ldl 400), ([0, 52, 254, 3], .ldl (-1018)), ([145, 200], .lde 400), ([146, 200], .lde 912),
  ([147, 254, 3], .lde (-1018)), ([0, 50, 200], .ldf 400), ([0, 51, 254, 3], .ldf (-1018))]
theorem test_decode_load : loadWords.all (fun w => decodesTo true w.1 w.2) = true := by decide

/-- Encodings of rules R220 to R234: first and last mini, shortie and long form. -/
def storeWords : List (List Nat × Instr) := [
  ([217], .stl 0), ([226], .stl 18), ([227, 200], .stl 400), ([0, 81, 254, 3], .stl (-1018)), ([207, 200], .ste 400),
  ([208, 200], .ste 912), ([209, 254, 3], .ste (-1018)), ([228, 200], .stp 400), ([0, 109, 254, 3], .stp (-1018)),
  ([0, 120, 0], .sai 1), ([0, 120, 200], .sai 400), ([0, 121, 0, 0], .sai 1), ([0, 121, 254, 3], .sai (-1018)),
  ([210], .stf 2), ([212], .stf 6), ([213, 200], .stf 400), ([0, 79, 254, 3], .stf (-1018)), ([214], .sti 1),
  ([215], .sti 2), ([216, 0], .sti 1), ([216, 200], .sti 400), ([0, 80, 0, 0], .sti 1),
  ([0, 80, 254, 3], .sti (-1018)), ([0, 83], .sts), ([205, 200], .sdl 400), ([0, 75, 254, 3], .sdl (-1018)),
  ([204, 200], .sde 400), ([0, 72, 254, 3], .sde (-1018)), ([0, 73, 200], .sdf 400), ([0, 74, 254, 3], .sdf (-1018))]
theorem test_decode_store : storeWords.all (fun w => decodesTo true w.1 w.2) = true := by decide

/-- Encodings of rules R235 to R259: first and last mini, shortie and long form. -/
def arithmeticWords : List (List Nat × Instr) := [
  ([129], .add), ([130], .sub), ([131], .mul), ([132], .div), ([197], .mod), ([198], .neg), ([206], .shl),
  ([0, 91], .shr), ([0, 30], .dad), ([0, 31], .dsb), ([0, 32], .dmu), ([0, 33], .ddv), ([0, 102], .dmd),
  ([181], .fad), ([182], .fsb), ([183], .fmu), ([184], .fdv), ([0, 114], .fif), ([0, 113], .fef)]
theorem test_decode_arithmetic : arithmeticWords.all (fun w => decodesTo true w.1 w.2) = true := by decide

/-- Encodings of rules R260 to R280: first and last mini, shortie and long form. -/
def pointerConvertWords : List (List Nat × Instr) := [
  ([156, 200], .adi 200), ([0, 2, 254, 3], .adi (-509)), ([0, 3], .pad), ([0, 117], .psb), ([133], .inc),
  ([188], .inl 0), ([192], .inl 8), ([193, 200], .inl 400), ([0, 42, 254, 3], .inl (-1018)), ([186, 200], .ine 400),
  ([187, 254, 3], .ine (-1018)), ([134], .dec), ([0, 36, 200], .del 400), ([0, 37, 254, 3], .del (-1018)),
  ([0, 34, 200], .dee 400), ([0, 35, 254, 3], .dee (-1018)), ([243, 200], .zrl 400), ([0, 93, 254, 3], .zrl (-1018)),
  ([242, 200], .zre 400), ([0, 92, 254, 3], .zre (-1018)), ([0, 22], .cid), ([0, 21], .cdi), ([157], .cif),
  ([175], .cfi), ([0, 100], .cdf), ([0, 101], .cfd)]
theorem test_decode_pointer_convert : pointerConvertWords.all (fun w => decodesTo true w.1 w.2) = true := by decide

/-- Encodings of rules R281 to R304: first and last mini, shortie and long form. -/
def logicalSetsWords : List (List Nat × Instr) := [
  ([229], .and 2), ([0, 4, 200], .and 400), ([0, 5, 254, 3], .and (-1018)), ([0, 6], .ans), ([158], .ior 2),
  ([161], .ior 8), ([0, 45, 200], .ior 400), ([0, 46, 254, 3], .ior (-1018)), ([0, 47], .ios),
  ([0, 86, 200], .xor 400), ([0, 87, 254, 3], .xor (-1018)), ([0, 88], .xos), ([0, 27, 200], .com 400),
  ([0, 28, 254, 3], .com (-1018)), ([0, 29], .cos), ([0, 69], .rol), ([0, 70], .ror), ([194, 200], .inn 400),
  ([0, 43, 254, 3], .inn (-1018)), ([0, 44], .ins), ([0, 77, 200], .xset 400), ([0, 78, 254, 3], .xset (-1018)),
  ([0, 76], .ses)]
theorem test_decode_logical_sets : logicalSetsWords.all (fun w => decodesTo true w.1 w.2) = true := by decide

/-- Encodings of rules R305 to R329: first and last mini, shortie and long form. -/
def arrayCompareWords : List (List Nat × Instr) := [
  ([135, 200], .lar 400), ([136, 200], .lar 912), ([137, 254, 3], .lar (-1018)), ([0, 49], .las),
  ([201, 200], .sar 400), ([202, 200], .sar 912), ([203, 254, 3], .sar (-1018)), ([0, 71], .sas),
  ([138, 200], .aar 400), ([139, 200], .aar 912), ([140, 254, 3], .aar (-1018)), ([0, 1], .aas), ([177], .cmi),
  ([0, 23], .cmd), ([176], .cmf), ([0, 84], .cmp), ([0, 25, 200], .cmu 400), ([0, 26, 254, 3], .cmu (-1018)),
  ([0, 24], .cms), ([234], .tlt), ([233], .tle), ([230], .teq), ([235], .tne), ([231], .tge), ([232], .tgt)]
theorem test_decode_array_compare : arrayCompareWords.all (fun w => decodesTo true w.1 w.2) = true := by decide

/-- Encodings of rules R330 to R349: first and last mini, shortie and long form. -/
def branchWords : List (List Nat × Instr) := [
  ([172, 200], .brf 200), ([0, 14, 254, 3], .brf (-509)), ([171, 200], .brb 200), ([0, 15, 254, 3], .brb (-509)),
  ([169, 200], .blt 200), ([0, 12, 254, 3], .blt (-509)), ([168, 200], .ble 200), ([0, 11, 254, 3], .ble (-509)),
  ([165, 200], .beq 200), ([0, 8, 254, 3], .beq (-509)), ([170, 200], .bne 200), ([0, 13, 254, 3], .bne (-509)),
  ([166, 200], .bge 200), ([0, 9, 254, 3], .bge (-509)), ([167, 200], .bgt 200), ([0, 10, 254, 3], .bgt (-509)),
  ([240, 200], .zlt 200), ([0, 98, 254, 3], .zlt (-509)), ([239, 200], .zle 200), ([0, 97, 254, 3], .zle (-509)),
  ([236, 200], .zeq 200), ([0, 94, 254, 3], .zeq (-509)), ([241, 200], .zne 200), ([0, 99, 254, 3], .zne (-509)),
  ([237, 200], .zge 200), ([0, 95, 254, 3], .zge (-509)), ([238, 200], .zgt 200), ([0, 96, 254, 3], .zgt (-509))]
theorem test_decode_branch : branchWords.all (fun w => decodesTo true w.1 w.2) = true := by decide

/-- Encodings of rules R350 to R364: first and last mini, shortie and long form. -/
def callWords : List (List Nat × Instr) := [
  ([244], .mrk 0), ([247], .mrk 3), ([0, 61, 200], .mrk 200), ([0, 62, 254, 3], .mrk (-509)), ([0, 65], .mrs),
  ([248], .mrx 0), ([251], .mrx 3), ([0, 63, 200], .mrx 200), ([0, 64, 254, 3], .mrx (-509)), ([0, 66], .mxs),
  ([174, 200], .cal 200), ([0, 19, 254, 3], .cal (-509)), ([0, 20], .cas), ([199], .ret 0), ([200], .ret 2),
  ([0, 67, 200], .ret 400), ([0, 68, 254, 3], .ret (-1018)), ([0, 103], .res)]
theorem test_decode_call : callWords.all (fun w => decodesTo true w.1 w.2) = true := by decide

/-- Encodings of rules R365 to R399: first and last mini, shortie and long form. -/
def miscellaneousWords : List (List Nat × Instr) := [
  ([252], .beg 2), ([254], .beg 6), ([255, 200], .beg 400), ([0, 7, 254, 3], .beg (-1018)), ([0, 16], .bes),
  ([173, 200], .blm 400), ([0, 17, 254, 3], .blm (-1018)), ([0, 18], .bls), ([178], .csa), ([179], .csb),
  ([180], .dup 2), ([0, 38, 200], .dup 400), ([0, 39, 254, 3], .dup (-1018)), ([0, 40], .dus), ([0, 41], .exg),
  ([0, 0], .hlt), ([195, 200], .lin 200), ([196, 254, 3], .lin (-509)), ([185], .lni), ([0, 58, 200], .lor 200),
  ([0, 106, 254, 3], .lor (-509)), ([0, 89], .nop), ([143, 200], .rck 400), ([144, 254, 3], .rck (-1018)),
  ([0, 118], .rcs), ([0, 119], .rtt), ([0, 122], .sig), ([0, 82, 200], .str 200), ([0, 107, 254, 3], .str (-509)),
  ([0, 123], .trp), ([0, 104, 200], .lsa 200), ([0, 105, 254, 3], .lsa (-509))]
theorem test_decode_miscellaneous : miscellaneousWords.all (fun w => decodesTo true w.1 w.2) = true := by decide

/-- R107: in the alternate context the opcodes 134 to 255 are CAL 0 to CAL 121; lower ones keep their meaning. -/
theorem test_decode_alternate_context :
    decodesTo false [134] (.cal 0) = true ∧ decodesTo false [255] (.cal 121) = true
      ∧ decodesTo false [133] .inc = true ∧ decodesTo false [0, 14, 254, 3] (.brf (-509)) = true := by decide

/-- R103, R115, R116. -/
theorem test_decode_escape :
    decode true [0#8] = .instr .escape 1 ∧ decode true [0#8, 85#8] = .instr (.illegal 85#8) 2
      ∧ decode true [0#8, 255#8] = .instr (.illegal 255#8) 2 ∧ decodesTo true [0, 104, 200] (.lsa 200) = true
      ∧ decodesTo true [0, 105, 254, 3] (.lsa (-509)) = true := by decide

/-- R121: words of opcode_table.json, the first byte leftmost. -/
theorem test_table_words :
    decodeTableWord 8 0 = some .escape ∧ decodeTableWord 8 129 = some .add
      ∧ decodeTableWord 16 0x0059 = some .nop ∧ decodeTableWord 16 0xAC05 = some (.brf 5)
      ∧ decodeTableWord 32 0x000E0102 = some (.brf 258) ∧ decodeTableWord 8 0x86 = some .dec := by decide

/-! ## The vectors of 95_test_vectors.md -/

/-- A vector: the bytes of the instruction, what differs from the standard state, and the state after the instruction
proper. -/
structure Vec where
  code : List Nat
  stack : List Int := []
  words : List (Nat × Int) := []
  bytes : List (Nat × Nat) := []
  hp : Int := 8192
  normal : Bool := true
  handler : Int × Int := (0, 0)
  pc : Int
  sp : Int
  lb : Int := 1000
  after : List Int := []
  whole : Bool := true
  mem : List (Nat × Int) := []
  bmem : List (Nat × Nat) := []
  pending : List Byte := []
  status : Status := .running
  normal2 : Bool := normal
  handler2 : Int × Int := handler
  hp2 : Int := hp

/-- Words put at ascending addresses of a memory. -/
def putAll (m : Memory) (ws : List (Nat × Int)) : Memory := ws.foldl (fun m w => m.writeWord w.1 (u16 w.2)) m

/-- The standard state of 95_test_vectors.md §1, with what the vector changes. -/
def Vec.start (v : Vec) : State :=
  { State.reset with
    pc := 100#16, lb := 1000#16, sp := u16 (998 + 2 * (v.stack.length : Int)), hp := u16 v.hp, pd := 1000#16
    uerrorlb := u16 v.handler.1, uerrorproc := u16 v.handler.2, normalmap := v.normal
    header := { ntext := 1000#16, ndata := 1#16, nproc := 4#16, entry := 0#16, nline := 40#16 }
    code := (Memory.writeBytes [] 1000 [0#8, 0#8, 0#8, 0#8, 4#8, 0#8, 88#8, 2#8, 2#8, 0#8, 44#8, 1#8, 0#8, 0#8, 188#8,
      2#8]).writeBytes 100 (v.code.map (BitVec.ofNat 8))
    data := (putAll (putAll [] ([(994, 900), (996, 900), (998, 50), (894, 8191), (896, 8191), (898, 8191)] ++ v.words))
      (v.stack.zipIdx.map (fun w => (1000 + 2 * w.2, w.1)))) |> fun m =>
        v.bytes.foldl (fun m b => m.write b.1 (BitVec.ofNat 8 b.2)) m }

/-- The instruction proper leaves what the vector says. -/
def Vec.holds (v : Vec) : Bool :=
  match decode v.normal v.start.window with
  | .truncated => false
  | .instr i n =>
    match exec i (v.start.advance n) with
    | .next t =>
      decide (n = v.code.length) && decide (t.pcI = v.pc) && decide (t.spI = v.sp) && decide (t.lbI = v.lb)
        && decide (t.hpI = v.hp2) && (!v.whole || decide (t.wordsAt t.lbI ((t.spI + 2 - t.lbI) / 2).toNat = v.after))
        && v.mem.all (fun w => decide (s16 (t.data.readWord w.1) = w.2))
        && v.bmem.all (fun b => decide ((t.data.read b.1).toNat = b.2)) && decide (t.pending = v.pending)
        && decide (t.status = v.status) && decide (t.normalmap = v.normal2)
        && decide ((adr t.uerrorlb, adr t.uerrorproc) = v.handler2)
    | _ => false

/-- Vectors of 95_test_vectors.md, group load: V1, V37, V7, V9, V10, V12, V14, V15, V16, V18, V19, V20, V21, V23. -/
def loadVectors1 : List Vec := [
  { code := [6], pc := 101, sp := 1000, after := [5] },
  { code := [2], stack := [7], hp := 1002, pc := 101, sp := 1000, after := [7], status := .aborted 0 },
  { code := [37], pc := 101, sp := 1000, after := [-1] },
  { code := [41], stack := [11, 12, 13], pc := 101, sp := 1006, after := [11, 12, 13, 13] },
  { code := [41], stack := [11, 12], pc := 101, sp := 1002, after := [11, 12], status := .aborted 26 },
  { code := [60], words := [(8, 99)], pc := 101, sp := 1000, after := [99] },
  { code := [163], stack := [0, 300], words := [(300, 5)], pc := 101, sp := 1004, after := [0, 300, 5] },
  { code := [162], stack := [301], pc := 101, sp := 1000, after := [301], status := .aborted 26 },
  { code := [0, 115, 1], stack := [300], words := [(300, 400), (400, 9)], pc := 103, sp := 1000, after := [9], mem := [(300, 402)] },
  { code := [82], stack := [300], words := [(304, 8)], pc := 101, sp := 1000, after := [8] },
  { code := [81], stack := [8190], pc := 101, sp := 998, status := .aborted 26 },
  { code := [95], pc := 101, sp := 1000, after := [1006] },
  { code := [104], pc := 101, sp := 1000, after := [8] },
  { code := [122, 255, 255], pc := 103, sp := 998, status := .aborted 2 }]
theorem test_vectors_load_1 : loadVectors1.all Vec.holds = true := by decide

/-- Vectors of 95_test_vectors.md, group load: V24, V25, V28, V30, V31, V32, V34, V35, V36. -/
def loadVectors2 : List Vec := [
  { code := [141], pc := 101, sp := 1000, after := [900] },
  { code := [0, 53, 0], pc := 103, sp := 1000, after := [1000] },
  { code := [125], stack := [300], words := [(300, 1), (302, 2)], pc := 101, sp := 1002, after := [1, 2] },
  { code := [124], stack := [301], pc := 101, sp := 998, status := .aborted 26 },
  { code := [0, 59], stack := [300, 2], words := [(300, 7)], pc := 102, sp := 1000, after := [7] },
  { code := [0, 59], stack := [300, 0], pc := 102, sp := 1000, after := [300], status := .aborted 2 },
  { code := [149], stack := [0, 3, 4], pc := 101, sp := 1008, after := [0, 3, 4, 3, 4] },
  { code := [145, 5], words := [(10, 5), (12, 6)], pc := 102, sp := 1002, after := [5, 6] },
  { code := [0, 50, 1], stack := [300], words := [(302, 1), (304, 2)], pc := 103, sp := 1002, after := [1, 2] }]
theorem test_vectors_load_2 : loadVectors2.all Vec.holds = true := by decide

/-- Vectors of 95_test_vectors.md, group store: V38, V39, V40, V53, V41, V42, V44, V45, V47, V48, V49, V50, V51, V52. -/
def storeVectors : List Vec := [
  { code := [217], stack := [1, 7], pc := 101, sp := 1000, after := [7] },
  { code := [218], stack := [1, 7], pc := 101, sp := 1000, after := [1], status := .aborted 26 },
  { code := [207, 4], stack := [99], pc := 102, sp := 998, mem := [(8, 99)] },
  { code := [209, 11, 184], stack := [1], hp := 7000, pc := 103, sp := 998, status := .aborted 26 },
  { code := [228, 0], stack := [300, 5], pc := 102, sp := 1000, after := [300], mem := [(300, 5)] },
  { code := [0, 120, 1], stack := [9, 300], words := [(300, 400)], pc := 103, sp := 998, mem := [(300, 402), (400, 9)] },
  { code := [212], stack := [1, 300], pc := 101, sp := 998, mem := [(306, 1)] },
  { code := [214], stack := [4660, 301], pc := 101, sp := 998, bmem := [(301, 52)] },
  { code := [215], stack := [1, 301], pc := 101, sp := 998, status := .aborted 26 },
  { code := [0, 83], stack := [7, 300, 2], pc := 102, sp := 998, mem := [(300, 7)] },
  { code := [0, 83], stack := [7, 300, 5], pc := 102, sp := 1002, after := [7, 300], status := .aborted 2 },
  { code := [205, 1], stack := [0, 0, 0, 3, 4], pc := 102, sp := 1004, after := [0, 3, 4] },
  { code := [204, 5], stack := [5, 6], pc := 102, sp := 998, mem := [(10, 5), (12, 6)] },
  { code := [0, 73, 1], stack := [1, 2, 300], pc := 103, sp := 998, mem := [(302, 1), (304, 2)] }]
theorem test_vectors_store : storeVectors.all Vec.holds = true := by decide

/-- Vectors of 95_test_vectors.md, group arithmetic: V55, V56, V62, V63, V64, V65, V66, V68, V70, V71, V72, V73, V74, V75. -/
def arithmeticVectors1 : List Vec := [
  { code := [129], stack := [3, 4], pc := 101, sp := 1000, after := [7] },
  { code := [129], stack := [32767, 1], pc := 101, sp := 998, status := .aborted 8 },
  { code := [130], stack := [3, 4], pc := 101, sp := 1000, after := [-1] },
  { code := [130], stack := [-32767, 1], handler := (1000, 2), pc := 101, sp := 1000, after := [-32768], pending := [8] },
  { code := [131], stack := [-6, 7], pc := 101, sp := 1000, after := [-42] },
  { code := [131], stack := [300, 200], handler := (1000, 2), pc := 101, sp := 1000, after := [-5536], pending := [8] },
  { code := [132], stack := [-7, 2], pc := 101, sp := 1000, after := [-3] },
  { code := [132], stack := [9, 7, 0], handler := (1000, 2), pc := 101, sp := 1000, after := [9], pending := [12] },
  { code := [197], stack := [-7, 2], pc := 101, sp := 1000, after := [-1] },
  { code := [197], stack := [7, -2], pc := 101, sp := 1000, after := [1] },
  { code := [198], stack := [5], pc := 101, sp := 1000, after := [-5] },
  { code := [198], stack := [-32768], handler := (1000, 2), pc := 101, sp := 1000, after := [-32768], pending := [14] },
  { code := [206], stack := [3, 2], pc := 101, sp := 1000, after := [12] },
  { code := [206], stack := [16384, 1], handler := (1000, 2), pc := 101, sp := 1000, after := [16384], pending := [8] }]
theorem test_vectors_arithmetic_1 : arithmeticVectors1.all Vec.holds = true := by decide

/-- Vectors of 95_test_vectors.md, group arithmetic: V79. -/
def arithmeticVectors2 : List Vec := [
  { code := [0, 91], stack := [-5, 1], pc := 102, sp := 1000, after := [-3] }]
theorem test_vectors_arithmetic_2 : arithmeticVectors2.all Vec.holds = true := by decide

/-- Vectors of 95_test_vectors.md, group pointer: V94, V97, V98, V99, V100, V101, V102, V103, V104, V105, V106, V107, V108, V109. -/
def pointerVectors1 : List Vec := [
  { code := [156, 6], stack := [300], pc := 102, sp := 1000, after := [306] },
  { code := [0, 3], stack := [300, -4], pc := 102, sp := 1000, after := [296] },
  { code := [0, 117], stack := [310, 300], pc := 102, sp := 1000, after := [10] },
  { code := [0, 117], stack := [-25536, 100], handler := (1000, 2), pc := 102, sp := 1000, after := [-25636], pending := [8] },
  { code := [133], stack := [41], pc := 101, sp := 1000, after := [42] },
  { code := [133], stack := [32767], handler := (1000, 2), pc := 101, sp := 1000, after := [-32768], pending := [8] },
  { code := [189], stack := [0, 9], pc := 101, sp := 1002, after := [0, 10] },
  { code := [188], stack := [-32768], handler := (1000, 2), pc := 101, sp := 1000, after := [-32767], pending := [14] },
  { code := [186, 4], words := [(8, 99)], pc := 102, sp := 998, mem := [(8, 100)] },
  { code := [134], stack := [0], pc := 101, sp := 1000, after := [-1] },
  { code := [134], stack := [-32767], handler := (1000, 2), pc := 101, sp := 1000, after := [-32768], pending := [8] },
  { code := [0, 36, 0], stack := [5], pc := 103, sp := 1000, after := [4] },
  { code := [0, 34, 4], words := [(8, 1)], pc := 103, sp := 998, mem := [(8, 0)] },
  { code := [243, 1], stack := [7, 7], pc := 102, sp := 1002, after := [7, 0] }]
theorem test_vectors_pointer_1 : pointerVectors1.all Vec.holds = true := by decide

/-- Vectors of 95_test_vectors.md, group pointer: V110. -/
def pointerVectors2 : List Vec := [
  { code := [242, 4], words := [(8, 99)], pc := 102, sp := 998, mem := [(8, 0)] }]
theorem test_vectors_pointer_2 : pointerVectors2.all Vec.holds = true := by decide

/-- Vectors of 95_test_vectors.md, group logical: V111, V113, V114, V115, V116, V117, V118, V119, V121, V122, V124, V126, V127, V132. -/
def logicalVectors1 : List Vec := [
  { code := [229], stack := [4080, 15420], pc := 101, sp := 1000, after := [3120] },
  { code := [0, 6], stack := [6, 3, 2], pc := 102, sp := 1000, after := [2] },
  { code := [0, 6], stack := [6, 3, 0], pc := 102, sp := 1002, after := [6, 3], status := .aborted 2 },
  { code := [158], stack := [3840, 240], pc := 101, sp := 1000, after := [4080] },
  { code := [0, 47], stack := [1, 2, 2], pc := 102, sp := 1000, after := [3] },
  { code := [0, 86, 1], stack := [4080, 255], pc := 103, sp := 1000, after := [3855] },
  { code := [0, 88], stack := [5, 1, 2], pc := 102, sp := 1000, after := [4] },
  { code := [0, 27, 1], stack := [255], pc := 103, sp := 1000, after := [-256] },
  { code := [0, 29], stack := [0, 2], pc := 102, sp := 1000, after := [-1] },
  { code := [0, 69], stack := [-32767, 1], pc := 102, sp := 1000, after := [3] },
  { code := [0, 70], stack := [1, 1], pc := 102, sp := 1000, after := [-32768] },
  { code := [194, 1], stack := [32, 5], pc := 102, sp := 1000, after := [1] },
  { code := [194, 1], stack := [32, 4], pc := 102, sp := 1000, after := [0] },
  { code := [0, 44], stack := [4, 2, 2], pc := 102, sp := 1000, after := [1] }]
theorem test_vectors_logical_1 : logicalVectors1.all Vec.holds = true := by decide

/-- Vectors of 95_test_vectors.md, group logical: V133, V135, V136. -/
def logicalVectors2 : List Vec := [
  { code := [0, 77, 2], stack := [17], pc := 103, sp := 1002, after := [0, 2] },
  { code := [0, 77, 1], stack := [16], handler := (1000, 2), pc := 103, sp := 1000, after := [0], pending := [5] },
  { code := [0, 76], stack := [3, 2], pc := 102, sp := 1000, after := [8] }]
theorem test_vectors_logical_2 : logicalVectors2.all Vec.holds = true := by decide

/-- Vectors of 95_test_vectors.md, group array and compare: V137, V138, V142, V143, V145, V146, V147, V148, V151, V152, V155, V156, V157, V158. -/
def arrayCompareVectors1 : List Vec := [
  { code := [135, 10], stack := [400, 3], words := [(20, 1), (22, 9), (24, 2), (404, 77)], pc := 102, sp := 1000, after := [77] },
  { code := [135, 10], stack := [400, 3], words := [(20, 0), (22, 9), (24, 1)], bytes := [(403, 200)], pc := 102, sp := 1000, after := [200] },
  { code := [0, 49], stack := [400, 3, 20], words := [(20, 1), (22, 9), (24, 2), (404, 77)], pc := 102, sp := 1000, after := [77] },
  { code := [201, 10], stack := [77, 400, 3], words := [(20, 1), (22, 9), (24, 2)], pc := 102, sp := 998, mem := [(404, 77)] },
  { code := [0, 71], stack := [77, 400, 3, 20], words := [(20, 1), (22, 9), (24, 2)], pc := 102, sp := 998, mem := [(404, 77)] },
  { code := [138, 10], stack := [400, 10], words := [(20, 1), (22, 9), (24, 6)], pc := 102, sp := 1000, after := [454] },
  { code := [0, 1], stack := [400, 1, 20], words := [(20, 1), (22, 9), (24, 6)], pc := 102, sp := 1000, after := [400] },
  { code := [177], stack := [3, 5], pc := 101, sp := 1000, after := [-1] },
  { code := [0, 84], stack := [-2, 2], pc := 102, sp := 1000, after := [1] },
  { code := [0, 25, 2], stack := [1, 2, 1, 3], pc := 103, sp := 1000, after := [-1] },
  { code := [0, 24], stack := [7, 7, 2], pc := 102, sp := 1000, after := [0] },
  { code := [234], stack := [-1], pc := 101, sp := 1000, after := [1] },
  { code := [233], stack := [0], pc := 101, sp := 1000, after := [1] },
  { code := [230], stack := [1], pc := 101, sp := 1000, after := [0] }]
theorem test_vectors_array_compare_1 : arrayCompareVectors1.all Vec.holds = true := by decide

/-- Vectors of 95_test_vectors.md, group array and compare: V159, V160, V161. -/
def arrayCompareVectors2 : List Vec := [
  { code := [235], stack := [1], pc := 101, sp := 1000, after := [1] },
  { code := [231], stack := [-32768], pc := 101, sp := 1000, after := [0] },
  { code := [232], stack := [0], pc := 101, sp := 1000, after := [0] }]
theorem test_vectors_array_compare_2 : arrayCompareVectors2.all Vec.holds = true := by decide

/-- Vectors of 95_test_vectors.md, group branch: V162, V163, V166, V168, V169, V171, V172, V173, V174, V175, V176, V177, V178, V180. -/
def branchVectors1 : List Vec := [
  { code := [172, 19], pc := 121, sp := 998 },
  { code := [172, 0], pc := 102, sp := 998 },
  { code := [171, 12], pc := 90, sp := 998 },
  { code := [171, 103], pc := 102, sp := 998, status := .aborted 28 },
  { code := [169, 4], stack := [3, 5], pc := 106, sp := 998 },
  { code := [168, 4], stack := [5, 5], pc := 106, sp := 998 },
  { code := [165, 4], stack := [5, 5], pc := 106, sp := 998 },
  { code := [170, 4], stack := [5, 5], pc := 102, sp := 998 },
  { code := [166, 4], stack := [-1, 0], pc := 102, sp := 998 },
  { code := [167, 4], stack := [7, 2], pc := 106, sp := 998 },
  { code := [240, 4], stack := [-1], pc := 106, sp := 998 },
  { code := [239, 4], stack := [0], pc := 106, sp := 998 },
  { code := [236, 4], stack := [0], pc := 106, sp := 998 },
  { code := [0, 99, 1, 0], stack := [1], pc := 360, sp := 998 }]
theorem test_vectors_branch_1 : branchVectors1.all Vec.holds = true := by decide

/-- Vectors of 95_test_vectors.md, group branch: V181, V183, V184. -/
def branchVectors2 : List Vec := [
  { code := [0, 99, 255, 255], stack := [1], pc := 104, sp := 998, status := .aborted 2 },
  { code := [237, 4], stack := [-32768], pc := 102, sp := 998 },
  { code := [238, 4], stack := [0], pc := 102, sp := 998 }]
theorem test_vectors_branch_2 : branchVectors2.all Vec.holds = true := by decide

/-- Vectors of 95_test_vectors.md, group call: V185, V186, V188, V189, V190, V191, V192, V194, V195, V196, V197, V199, V200, V201. -/
def callVectors1 : List Vec := [
  { code := [244], stack := [7], pc := 101, sp := 1006, after := [7, 1000, 1000, 0] },
  { code := [245], stack := [7], pc := 101, sp := 1006, after := [7, 900, 1000, 0] },
  { code := [0, 65], stack := [7, 0], pc := 102, sp := 1006, after := [7, 1000, 1000, 0] },
  { code := [0, 65], stack := [7, -1], pc := 102, sp := 1000, after := [7], status := .aborted 2 },
  { code := [248], stack := [7], pc := 101, sp := 1006, after := [7, 1000, 1000, 0], normal2 := false },
  { code := [0, 66], stack := [7, 1], pc := 102, sp := 1006, after := [7, 900, 1000, 0], normal2 := false },
  { code := [174, 1], stack := [7, 1000, 1000, 0, 11, 12], pc := 600, sp := 1010, lb := 1008, after := [11, 12], mem := [(1006, 102)] },
  { code := [174, 4], stack := [7, 1000, 1000, 0], pc := 102, sp := 1006, after := [7, 1000, 1000, 0], status := .aborted 27 },
  { code := [135], stack := [7, 1000, 1000, 0, 11, 12], normal := false, pc := 600, sp := 1010, lb := 1008, after := [11, 12], mem := [(1006, 101)], normal2 := true },
  { code := [135, 10], stack := [400, 3], words := [(20, 1), (22, 9), (24, 2), (404, 77)], pc := 102, sp := 1000, after := [77] },
  { code := [129], stack := [3, 4], normal := false, pc := 101, sp := 1000, after := [7] },
  { code := [0, 20], stack := [7, 1000, 1000, 0, 11, 12, 1], pc := 600, sp := 1010, lb := 1008, after := [11, 12], mem := [(1006, 102)] },
  { code := [199], stack := [1, 2], pc := 50, sp := 992, lb := 900, whole := false, mem := [(992, 0)] },
  { code := [200], stack := [1, 2, 9], pc := 50, sp := 994, lb := 900, whole := false, mem := [(992, 0), (994, 9)] }]
theorem test_vectors_call_1 : callVectors1.all Vec.holds = true := by decide

/-- Vectors of 95_test_vectors.md, group call: V203. -/
def callVectors2 : List Vec := [
  { code := [0, 103], stack := [1, 2, 9, 2], pc := 50, sp := 994, lb := 900, whole := false, mem := [(992, 0), (994, 9)] }]
theorem test_vectors_call_2 : callVectors2.all Vec.holds = true := by decide

/-- Vectors of 95_test_vectors.md, group miscellaneous: V205, V208, V210, V211, V212, V214, V215, V216, V219, V220, V222, V224, V225, V226. -/
def miscellaneousVectors1 : List Vec := [
  { code := [253], stack := [7], pc := 101, sp := 1004, after := [7, -32768, -32768] },
  { code := [0, 7, 255, 254], stack := [7], pc := 104, sp := 1000, after := [7], status := .aborted 0 },
  { code := [0, 16], stack := [4], pc := 102, sp := 1002, after := [-32768, -32768] },
  { code := [0, 16], stack := [3], pc := 102, sp := 998, status := .aborted 2 },
  { code := [173, 2], stack := [300, 400], words := [(300, 1), (302, 2)], pc := 102, sp := 998, mem := [(400, 1), (402, 2)] },
  { code := [0, 18], stack := [300, 400, 4], words := [(300, 1), (302, 2)], pc := 102, sp := 998, mem := [(400, 1), (402, 2)] },
  { code := [178], stack := [3, 40], words := [(40, 2), (42, 30), (44, 1), (46, 2), (48, 10), (50, -1), (52, 20)], pc := 320, sp := 998 },
  { code := [178], stack := [2, 40], words := [(40, 2), (42, 30), (44, 1), (46, 2), (48, 10), (50, -1), (52, 20)], pc := 330, sp := 998 },
  { code := [179], stack := [9, 40], words := [(40, 2), (42, -1), (44, 2), (46, 7), (48, 10), (50, 9), (52, 20)], pc := 320, sp := 998 },
  { code := [179], stack := [8, 40], words := [(40, 2), (42, -1), (44, 2), (46, 7), (48, 10), (50, 9), (52, 20)], pc := 101, sp := 998, status := .aborted 4 },
  { code := [180], stack := [1, 2], pc := 101, sp := 1004, after := [1, 2, 2] },
  { code := [0, 40], stack := [7, 2], pc := 102, sp := 1002, after := [7, 7] },
  { code := [0, 41], stack := [1, 2], pc := 102, sp := 1002, after := [2, 1] },
  { code := [0, 0], stack := [3], pc := 102, sp := 998, status := .halted 3 }]
theorem test_vectors_miscellaneous_1 : miscellaneousVectors1.all Vec.holds = true := by decide

/-- Vectors of 95_test_vectors.md, group miscellaneous: V227, V228, V230, V231, V232, V235, V236, V237, V238, V239, V240, V241, V242, V248. -/
def miscellaneousVectors2 : List Vec := [
  { code := [195, 12], pc := 102, sp := 998, mem := [(0, 12)] },
  { code := [195, 41], handler := (1000, 2), pc := 102, sp := 998, mem := [(0, 41)], pending := [21] },
  { code := [185], words := [(0, 12)], pc := 101, sp := 998, mem := [(0, 13)] },
  { code := [0, 58, 0], stack := [7], pc := 103, sp := 1002, after := [7, 1000] },
  { code := [0, 58, 1], stack := [7], pc := 103, sp := 1002, after := [7, 1000] },
  { code := [0, 89], stack := [7], pc := 102, sp := 1000, after := [7] },
  { code := [143, 10], stack := [10], words := [(20, 1), (22, 10)], pc := 102, sp := 1000, after := [10] },
  { code := [143, 10], stack := [11], words := [(20, 1), (22, 10)], handler := (1000, 2), pc := 102, sp := 1000, after := [11], pending := [7] },
  { code := [0, 118], stack := [0, 20], words := [(20, 1), (22, 10)], handler := (1000, 2), pc := 102, sp := 1000, after := [0], pending := [7] },
  { code := [0, 122], stack := [1000, 5], pc := 102, sp := 1002, after := [0, 0], handler2 := (1000, 5) },
  { code := [0, 122], stack := [0, -2], handler := (1000, 2), pc := 102, sp := 1002, after := [1000, 2], handler2 := (0, 65534) },
  { code := [0, 82, 0], stack := [1, 2, 3, 1002], pc := 103, sp := 1004, lb := 1002, after := [2, 3] },
  { code := [0, 82, 0], stack := [1, 1008], pc := 103, sp := 1000, after := [1], status := .aborted 0 },
  { code := [0, 123], stack := [1, 130], handler := (1000, 2), pc := 102, sp := 1000, after := [1], pending := [130] }]
theorem test_vectors_miscellaneous_2 : miscellaneousVectors2.all Vec.holds = true := by decide

/-- Vectors of 95_test_vectors.md, group miscellaneous: V249, V252, V253, V256. -/
def miscellaneousVectors3 : List Vec := [
  { code := [0, 123], stack := [1, 130], pc := 102, sp := 1000, after := [1], status := .aborted 130 },
  { code := [0, 104, 0], stack := [1], pc := 103, sp := 1000, after := [1], status := .aborted 2 },
  { code := [0, 200], stack := [1], pc := 102, sp := 1000, after := [1], status := .aborted 2 },
  { code := [0, 60], stack := [9, 11], handler := (1000, 2), pc := 102, sp := 1000, after := [9], pending := [22] }]
theorem test_vectors_miscellaneous_3 : miscellaneousVectors3.all Vec.holds = true := by decide

/-! ## The hypotheses of the statements can be met -/

/-- A state between two steps: text at 0 to 39 with the given bytes at PC = 6, two procedures (0: no parameters, base 4;
1: two bytes of parameters, base 8), procedure 1 set as error procedure, a mark block at 58 to 63, LB = 64 with the given
words in the frame, HP = 192, and words at low addresses: a pointer to 200 at 2; the array descriptors (1, 3, 2) at 4 and
(0, 1, 1) at 10; an index table at 16 and a search table at 28, both for procedure 0. -/
def frame (ws : List Int) (code : List Byte := []) : State :=
  { State.reset with
    params := { maxcode := 127, maxdata := 255 }
    pc := 6#16, lb := 64#16, sp := u16 (62 + 2 * (ws.length : Int)), hp := 192#16, pd := 40#16
    uerrorlb := 12#16, uerrorproc := 1#16
    header := { ntext := 40#16, ndata := 1#16, nproc := 2#16, entry := 0#16, nline := 50#16 }
    code := (Memory.writeBytes [] 6 code).writeBytes 40 [0#8, 0#8, 4#8, 0#8, 2#8, 0#8, 8#8, 0#8]
    data := putAll [] ([(2, 200), (4, 1), (6, 3), (8, 2), (10, 0), (12, 1), (14, 1), (16, 0), (18, 2), (20, 5), (22, 1),
      (24, 4), (26, -1), (28, 0), (30, -1), (32, 2), (34, 7), (36, 36), (38, 9), (40, -1), (48, 1), (50, 48), (58, 48),
      (60, 48), (62, 6), (200, 300)] ++ ws.zipIdx.map (fun w => (64 + 2 * w.2, w.1))) }

/-- The same without an error procedure. -/
def bare (ws : List Int) (code : List Byte := []) : State := { frame ws code with uerrorlb := 0#16 }

/-- With an error procedure every list of non-fatal errors is tolerated. -/
theorem tolerates_of_handler {s : State} (h : s.defaultHandling = false) (ns : List Byte) : s.tolerates ns = true := by
  simp [State.tolerates, h]

theorem test_witness_frame : (frame [1, 2]).wf = true ∧ (frame [1, 2]).inv = true ∧ (bare []).wf = true
    ∧ (frame [1, 2]).defaultHandling = false := by decide

theorem test_witness_EveryEncodingDecodesBack :
    (Instr.lol 30).wf = true ∧ (Instr.lol 30 = .escape → [1#8] = [])
      ∧ [54#8] ∈ encodings true (.lol 30) := by decide
theorem test_witness_EveryDecodingIsAnEncoding :
    decode true [54#8, 9#8] = .instr (.lol 30) 1 ∧ decode false [255#8] = .instr (.cal 121) 1 := by decide
theorem test_witness_StepRunsTheDecodedInstruction :
    (frame [] [54#8]).status = .running ∧ (frame [] [54#8]).signals = []
      ∧ decode true (frame [] [54#8]).window = .instr (.lol 30) 1 := by decide
theorem test_witness_RunningOffTheTextStops :
    let s := { frame [] with pc := 40#16 }
    let u := { frame [] with pc := 39#16, code := (frame []).code.write 39 34#8 }
    s.wf = true ∧ s.status = .running ∧ s.signals = [] ∧ s.pcI = s.pdI
      ∧ u.wf = true ∧ u.status = .running ∧ u.signals = [] ∧ u.window = [34#8]
      ∧ decode u.normalmap u.window = .truncated := by decide

theorem test_witness_ConstantAndRegisterPushes :
    (frame []).room 2 = true ∧ isX 32766 = true ∧ isX 0 = true ∧ isN 1 = true
      ∧ (frame []).oklinks 1 (frame []).lbI = true := by decide
theorem test_witness_WordLoads :
    let s := frame [200, 5]
    isX 0 = true ∧ s.room 4 = true ∧ s.okword (s.lbI + 0) = true ∧ s.okword 254 = true
      ∧ s.okword (adr (s.word (s.lbI + 0))) = true ∧ s.okblock (s.lbI + 0) 4 = true ∧ s.okblock 252 4 = true
      ∧ (frame [200]).has 2 = true ∧ ((frame [200]).drop 2).okword ((frame [200]).topA 0 + 54) = true
      ∧ ((frame [200]).drop 2).okblock ((frame [200]).topA 0 + 52) 4 = true := by decide
theorem test_witness_WordStores :
    let s := frame [200, 4, 5, 200]
    s.has 6 = true ∧ isX 0 = true ∧ (s.drop 2).okword (s.lbI + 0) = true ∧ (s.drop 2).okword 254 = true
      ∧ s.okword (s.lbI + 0) = true ∧ (s.drop 2).okword (adr (s.word (s.lbI + 0))) = true
      ∧ (s.drop 4).okword (s.topA 0 + 54) = true ∧ (s.drop 4).okblock (s.lbI + 0) 4 = true
      ∧ (s.drop 4).okblock 252 4 = true ∧ (s.drop 6).okblock (s.topA 0 + 52) 4 = true := by decide
theorem test_witness_ObjectMoves :
    loiPre 1 (frame [255]) = true ∧ loiPre 56 (frame [200]) = true
      ∧ (frame [255, 1]).has 2 = true ∧ loiPre ((frame [255, 1]).topA 0) ((frame [255, 1]).drop 2) = true
      ∧ stiPre 1 (frame [7, 255]) = true ∧ stiPre 4 (frame [7, 8, 252]) = true
      ∧ stiPre ((frame [7, 8, 252, 4]).topA 0) ((frame [7, 8, 252, 4]).drop 2) = true := by decide
theorem test_witness_AutoIncrementMoves :
    let s := frame [9, 2]
    let b := adr (s.word (s.topA 0))
    let u := fun k => (s.drop 2).putWord (s.topA 0) (b + k)
    isY 1 = true ∧ isY 4 = true ∧ s.has 2 = true ∧ (s.drop 2).okword (s.topA 0) = true ∧ (u 1).okobject b 1 = true
      ∧ (u 4).okobject b 4 = true ∧ (u 4).room (stackSize 4) = true ∧ (u 1).okpop 0 b 1 = true
      ∧ (u 2).okpop 0 b 2 = true := by decide
theorem test_witness_RejectedOperands :
    isX (-2) = false ∧ isX 3 = false ∧ isX 32768 = false ∧ isY 0 = false ∧ isP 0 = false ∧ isZ (-32770) = false
      ∧ isN (-1) = false ∧ (frame [3]).has 2 = true ∧ isX ((frame [3]).topA 0) = false ∧ isX ((frame [-2]).top 0) = false
      ∧ isY ((frame [0]).topA 0) = false ∧ isP ((frame [1]).top 0) = false ∧ isZ ((frame [1]).top 0) = false
      ∧ isN ((frame [-1]).top 0) = false := by decide
theorem test_witness_RejectedOperands_element_sizes :
    let s := (bare [200, 1]).putWord 8 3
    let z := (bare [200, 1]).putWord 8 0
    let u := (bare [200, 1, 4]).putWord 8 (-2)
    s.wf = true ∧ s.has 2 = true ∧ (s.drop 2).okblock 4 6 = true ∧ s.tolerates (arrayRaises 4 s) = true
      ∧ s.arraySize 4 = 3 ∧ z.wf = true ∧ arrayPre 4 z = true ∧ z.arraySize 4 = 0
      ∧ u.wf = true ∧ u.has 2 = true ∧ u.topA 0 = 4 ∧ ((u.drop 2).drop 2).okblock 4 6 = true
      ∧ (u.drop 2).tolerates (arrayRaises 4 (u.drop 2)) = true ∧ (u.drop 2).arraySize 4 = -2 := by decide

theorem test_witness_AddSubMulResults :
    (frame [32767, -32768]).has 4 = true ∧ (frame [32767, 1]).tolerates [EIOVFL] = true
      ∧ (bare [3, 4]).tolerates [] = true := by decide
theorem test_witness_AddStopsWithoutErrorProcedure :
    (bare [1, -32768]).has 4 = true ∧ (bare [1, -32768]).defaultHandling = true ∧ (bare [1, -32768]).top 0 = -32768
      ∧ (bare [-32768, 1]).top 0 ≠ -32768 ∧ (bare [-32768, 1]).top 1 = -32768
      ∧ 32768 ≤ ((bare [32767, 1]).top 1 + (bare [32767, 1]).top 0).natAbs := by decide
theorem test_witness_DivideAndRemainder :
    (bare [7, -2]).has 4 = true ∧ (bare [7, -2]).tolerates [] = true ∧ (bare [7, -2]).top 0 ≠ 0
      ∧ (frame [7, 0]).tolerates [EIDIVZ] = true ∧ (frame [7, 0]).top 0 = 0 := by decide
theorem test_witness_UnaryArithmetic :
    (frame [-32768]).has 2 = true ∧ (frame [-32768]).tolerates [EIUND, EIOVFL] = true
      ∧ (bare [5]).tolerates [] = true := by decide
theorem test_witness_ShiftsAndRotatesByLegalCounts :
    (frame [1, 15]).has 4 = true ∧ 0 ≤ (frame [1, 0]).top 0 ∧ (frame [1, 15]).top 0 ≤ 15
      ∧ (14 : Int) ≤ (frame [1, 15]).top 0 ∧ 16384 ≤ ((frame [1, 15]).top 1 * 2 ^ 14).natAbs
      ∧ (∀ m : Nat, m < 14 → ((frame [1, 15]).top 1 * 2 ^ m).natAbs < 16384)
      ∧ (frame [1, 15]).tolerates [EIOVFL] = true := by decide
theorem test_witness_ShiftsByOtherCountsLeaveAFreeWord :
    (frame [1, 16]).has 4 = true ∧ 15 < (frame [1, 16]).top 0 ∧ (frame [1, -1]).top 0 < 0
      ∧ (frame [1, 16]).tolerates [] = true := by decide
theorem test_witness_PointerArithmetic :
    (frame [-1, 0]).has 4 = true ∧ (frame [-1, 0]).tolerates [EIOVFL] = true ∧ (bare [200, 2]).tolerates [] = true := by
  decide
theorem test_witness_InPlaceIncrementsAndZeros :
    isX 0 = true ∧ (frame [32767]).okword ((frame [32767]).lbI + 0) = true ∧ (frame [1]).okword 254 = true
      ∧ (frame [32767]).tolerates [EIOVFL] = true := by decide

theorem test_witness_DoubleArithmetic :
    (frame [1, 0, 2, 0]).wf = true ∧ (frame [1, 0, 2, 0]).has 8 = true ∧ ∀ ns, (frame [1, 0, 2, 0]).tolerates ns = true :=
  ⟨by decide, by decide, tolerates_of_handler (by decide)⟩
theorem test_witness_FloatingArithmetic :
    (frame [1, 0, 2, 0]).wf = true ∧ (frame [1, 0, 2, 0]).has 8 = true
      ∧ (frame [1, 0, 2, 0]).defaultHandling = false ∧ ∀ ns, (frame [1, 0, 2, 0]).tolerates ns = true :=
  ⟨by decide, by decide, by decide, tolerates_of_handler (by decide)⟩
theorem test_witness_FloatingSplits :
    (frame [1, 0, 2, 0]).has 8 = true ∧ (frame [1, 0, 2, 0]).room 2 = true
      ∧ ∀ ns, (frame [1, 0, 2, 0]).tolerates ns = true :=
  ⟨by decide, by decide, tolerates_of_handler (by decide)⟩
theorem test_witness_Conversions :
    (frame [1, 0]).has 4 = true ∧ (frame [1, 0]).room 2 = true ∧ ∀ ns, (frame [1, 0]).tolerates ns = true :=
  ⟨by decide, by decide, tolerates_of_handler (by decide)⟩

theorem test_witness_LogicalGroups :
    logicalPre 2 (frame [1, 2]) = true ∧ logicalPre 4 (frame [1, 2, 3, 4]) = true
      ∧ logicalPre ((frame [1, 2, 2]).top 0) ((frame [1, 2, 2]).drop 2) = true
      ∧ comPre 4 (frame [1, 2]) = true ∧ comPre ((frame [1, 2]).top 0) ((frame [1, 2]).drop 2) = true := by
  decide
theorem test_witness_SetInstructions :
    innPre 4 (bare [1, 2, 31]) = true ∧ innPre 2 (frame [1, 16]) = true ∧ innPre 2 (frame [1, -1]) = true
      ∧ innPre ((bare [1, 2, 31, 4]).top 0) ((bare [1, 2, 31, 4]).drop 2) = true
      ∧ setPre 2 (bare [15]) = true ∧ setPre 2 (frame [16]) = true
      ∧ setPre ((bare [15, 2]).top 0) ((bare [15, 2]).drop 2) = true := by decide
theorem test_witness_SetMakesASingleton :
    setPre 4 (bare [31]) = true ∧ 0 ≤ (bare [31]).top 0 ∧ (bare [31]).top 0 < 8 * 4 ∧ (31 : Int) ≤ 32767
      ∧ (bare [31]).room (4 + 2) = true := by
  decide
theorem test_witness_ArrayInstructions :
    arrayPre 4 (bare [200, 4]) = true ∧ arrayPre 4 (frame [200, 5]) = true ∧ larPre 4 (bare [200, 1]) = true
      ∧ larPre 10 (bare [200, 1]) = true ∧ sarPre 4 (bare [7, 200, 4]) = true ∧ sarPre 10 (bare [7, 200, 0]) = true
      ∧ arrayPre ((bare [200, 4, 4]).topA 0) ((bare [200, 4, 4]).drop 2) = true
      ∧ larPre ((bare [200, 4, 4]).topA 0) ((bare [200, 4, 4]).drop 2) = true
      ∧ sarPre ((bare [7, 200, 4, 4]).topA 0) ((bare [7, 200, 4, 4]).drop 2) = true := by decide
theorem test_witness_CompareResults :
    (frame [1, 0, 2, 0]).has 8 = true ∧ cmuPre 4 (frame [1, 0, 2, 0]) = true
      ∧ cmuPre ((frame [1, 2, 2]).top 0) ((frame [1, 2, 2]).drop 2) = true
      ∧ ∀ ns, (frame [1, 0, 2, 0]).tolerates ns = true :=
  ⟨by decide, by decide, by decide, tolerates_of_handler (by decide)⟩
theorem test_witness_TestInstructions : (bare [-1]).wf = true ∧ (bare [-1]).has 2 = true := by decide

theorem test_witness_UnconditionalBranches :
    (bare []).pcI + 34 ≤ (bare []).pdI ∧ (bare []).pdI < (bare []).pcI + 35 ∧ 6 ≤ (bare []).pcI
      ∧ (bare []).pcI < 7 := by decide
theorem test_witness_ConditionalBranches :
    (bare [1, 2]).has 4 = true ∧ (bare [1, 2]).top 1 < (bare [1, 2]).top 0 ∧ ¬ ((bare [2, 1]).top 1 < (bare [2, 1]).top 0)
      ∧ (bare [0]).has 2 = true ∧ (bare [0]).top 0 = 0 ∧ (bare [1, 2]).pcI + 34 ≤ (bare [1, 2]).pdI
      ∧ (bare [1, 2]).pdI < (bare [1, 2]).pcI + 35 := by decide
theorem test_witness_MarkInstructions :
    mrkPre 0 (bare []) = true ∧ mrkPre 1 (bare []) = true ∧ (bare [1]).has 2 = true
      ∧ mrkPre ((bare [1]).top 0) ((bare [1]).drop 2) = true := by decide
theorem test_witness_CallInstructions :
    calPre 0 (bare [48, 64, 0]) = true ∧ calPre 1 (bare [48, 64, 0, 9]) = true ∧ (bare [48, 64, 0, 9, 1]).has 2 = true
      ∧ calPre ((bare [48, 64, 0, 9, 1]).top 0) ((bare [48, 64, 0, 9, 1]).drop 2) = true ∧ (bare []).nproc ≤ 2
      ∧ (bare [-1]).has 2 = true ∧ (bare [-1]).top 0 < 0 ∧ (bare [2]).nproc ≤ (bare [2]).top 0
      ∧ (bare [1]).top 0 < (bare [1]).nproc ∧ { bare [1] with pd := 41#16, header := { (bare [1]).header with ntext := 41#16 } }.wf = true
      ∧ { bare [] with pd := 41#16, header := { (bare []).header with ntext := 41#16 } }.wf = true := by decide
theorem test_witness_ReturnInstructions :
    retPre 0 (bare []) = true ∧ retPre 4 (bare [7, 8]) = true ∧ (bare [7, 8, 4]).has 2 = true
      ∧ retPre ((bare [7, 8, 4]).top 0) ((bare [7, 8, 4]).drop 2) = true := by decide
theorem test_witness_CallAndReturnRestore :
    (bare []).wf = true ∧ (bare []).room 6 = true ∧ (bare []).okproc 0 = true ∧ (bare []).procArgs 0 = 0 := by
  decide

theorem test_witness_CaseJumps :
    let s := bare [1, 16]
    let u := bare [2, 16]
    let v := bare [7, 28]
    s.wf = true ∧ s.has 4 = true ∧ (s.drop 4).okblock (s.topA 0) 8 = true ∧ s.okproc (s16 (s.word (s.topA 0))) = true
      ∧ s.top 1 - s16 (s.word (s.topA 0 + 4)) = -4 ∧ s16 (s.word (s.topA 0 + 2)) = 2
      ∧ (bare [6, 16]).top 1 - s16 ((bare [6, 16]).word 20) = 1 ∧ s16 ((bare [6, 16]).word 26) = -1
      ∧ s16 ((u.putWord 18 (-1)).word (u.topA 0 + 2)) = -1
      ∧ s16 ((u.putWord 18 100).word (u.topA 0 + 2)) = 100 ∧ s.pdI < s.procBaseOf 0 + 100
      ∧ v.has 4 = true ∧ 0 ≤ s16 (v.word (v.topA 0 + 4)) ∧ (v.drop 4).okblock (v.topA 0) (6 + 4 * 2) = true
      ∧ v.okproc (s16 (v.word (v.topA 0))) = true ∧ s16 (v.word (28 + 6)) = v.top 1 ∧ v.procBaseOf 0 + 36 = v.pdI
      ∧ s16 (v.word (v.topA 0 + 2)) = -1 := by decide
theorem test_witness_CaseJumps_without_entries :
    let m := (bare [7, 28]).putWord 32 (-1)
    let w := (bare [99, 28]).putWord 30 100
    m.wf = true ∧ m.has 4 = true ∧ s16 (m.word (m.topA 0 + 4)) = -1 ∧ (m.drop 4).okblock (m.topA 0) 6 = true
      ∧ m.okproc (s16 (m.word (m.topA 0))) = true ∧ s16 (w.word 34) ≠ w.top 1 ∧ s16 (w.word 38) ≠ w.top 1
      ∧ s16 (w.word (w.topA 0 + 2)) = 100 ∧ w.pdI < w.procBaseOf 0 + 100 := by decide
theorem test_witness_FrameAndBlockInstructions :
    begPre 126 (bare []) = true ∧ begPre (-4) (bare [1, 2]) = true ∧ begPre ((bare [4]).top 0) ((bare [4]).drop 2) = true
      ∧ blmPre 4 (bare [200, 204]) = true ∧ blmPre 4 (bare [202, 200]) = true
      ∧ blmPre ((bare [200, 252, 4]).top 0) ((bare [200, 252, 4]).drop 2) = true ∧ dupPre 4 (bare [1, 2]) = true
      ∧ dupPre ((bare [1, 2]).top 0) ((bare [1, 2]).drop 2) = true ∧ (bare [1, 2]).has 4 = true := by decide
theorem test_witness_HaltAndNop : (bare [3]).wf = true ∧ (bare [3]).has 2 = true := by decide
theorem test_witness_LineNumbersAndRangeChecks :
    0 ≤ (bare []).spI ∧ (bare []).tolerates [] = true ∧ (frame []).tolerates [ELIN] = true ∧ (frame []).nline < 51
      ∧ rckPre 4 (bare [3]) = true ∧ rckPre 4 (frame [4]) = true
      ∧ rckPre ((bare [1, 4]).topA 0) ((bare [1, 4]).drop 2) = true := by decide
theorem test_witness_StoreRegister :
    (bare [64]).has 2 = true ∧ (bare [64]).topA 0 % 2 = 0 ∧ (bare [64]).topA 0 ≤ (bare [64]).spI
      ∧ (bare [62]).lbI - 2 ≤ (bare [62]).topA 0 ∧ (bare [190]).topA 0 < (bare [190]).hpI
      ∧ (bare [64]).spI - 2 < (bare [64]).topA 0 ∧ (bare [256]).topA 0 ≤ (bare [256]).maxdata + 1
      ∧ (bare [62]).topA 0 ≤ (bare [62]).spI - 2 ∧ (bare [258]).maxdata + 1 < (bare [258]).topA 0
      ∧ (bare [65]).topA 0 % 2 = 1 ∧ (bare [66]).spI < (bare [66]).topA 0
      ∧ (bare [60]).topA 0 < (bare [60]).lbI - 2 ∧ (bare [192]).hpI ≤ (bare [192]).topA 0 := by decide
theorem test_witness_ErrorProcedureExchange : (frame [64, 0]).wf = true ∧ (frame [64, 0]).has 4 = true := by
  decide
theorem test_witness_IllegalEncodings :
    let s := { bare [] [0#8, 200#8] with pc := 6#16 }
    s.wf = true ∧ unassigned 200#8 = true ∧ s.status = .running ∧ s.signals = [] ∧ s.pcI + 2 ≤ s.pdI
      ∧ s.code.read s.pc.toNat = 0#8 ∧ s.code.read (s.pc.toNat + 1) = 200#8 := by decide
theorem test_witness_EscapeByteAndLsa :
    let s := bare [] [89#8]
    s.wf = true ∧ s.pcI < s.pdI ∧ decode true (0#8 :: s.window) = .instr .nop 2 ∧ 2 ≤ s.window.length + 1
      ∧ s.code.read s.pc.toNat = 89#8 ∧ { s with pc := 40#16 }.pcI = { s with pc := 40#16 }.pdI := by decide

theorem test_witness_MonitorCallConvention :
    let s := bare [200, 5, 1, 4]
    let c : MonCall := { code := 4, name := "Write", nparams := 3, hasE := true, hasR1 := false, hasR0 := true, buffer := none }
    s.wf = true ∧ monCall (s.top 0) = some c ∧ c.code ≠ monSigtrp ∧ s.has (2 + 2 * 3) = true ∧ s.room (4 - 2 - 6) = true
      ∧ (frame [11]).has 2 = true ∧ monCall ((frame [11]).top 0) = none ∧ (frame [11]).defaultHandling = false
      ∧ (monCall ((bare [200, 5, 1, 3]).top 0)).map (·.buffer) = some (some 0)
      ∧ ((bare [200, 5, 1, 3]).drop 8).admits 200 5 = true ∧ ((bare [70, 5, 1, 3]).drop 8).admits 70 5 = false := by
  decide
/-- R400: a call hands the host's state on. -/
theorem test_mon_advances_the_host :
    ∃ t : State, exec .mon (bare [20]) = .next t ∧ t.host = (Config.monHost 0 20 [] (bare [20]).data).host :=
  ⟨_, rfl, rfl⟩
theorem test_witness_SigtrpRecordsTheAction :
    (bare [255, 2, 48]).wf = true ∧ (bare [255, 2, 48]).has 6 = true ∧ (bare [255, 2, 48]).top 0 = 48
      ∧ (bare [255, 2, 48]).top 2 = 255 ∧ (bare [-1, 2, 48]).top 2 = -1 := by decide

theorem test_witness_TrapStopsOrQueues :
    (28#8 : Byte).toNat ∈ [0, 1, 2, 3, 4, 23, 25, 26, 27, 28] ∧ (24#8 : Byte).toNat ∉ [0, 1, 2, 3, 4, 23, 25, 26, 27, 28]
      ∧ (frame []).uerrorlb ≠ 0#16 ∧ (frame []).uerrorproc ≠ 65534#16 ∧ (bare []).defaultHandling = true
      ∧ (bare []).status = .running ∧ (bare []).pending = [] := by decide
theorem test_witness_TrapInstruction :
    (frame [255]).has 2 = true ∧ (frame [255]).top 0 = 255 ∧ isFatal 255#8 = false ∧ (frame [255]).defaultHandling = false
      ∧ isFatal 28#8 = true ∧ (bare [0]).top 0 = 0 ∧ 255 < (bare [256]).top 0 ∧ (bare [-1]).top 0 < 0 := by decide
theorem test_witness_TrapEntryBuildsTheFrame :
    let s := { frame [] with pending := [8#8, 14#8] }
    s.wf = true ∧ s.status = .running ∧ s.defaultHandling = false ∧ s.room 10 = true
      ∧ s.okproc (adr s.uerrorproc) = true := by decide
theorem test_witness_ReturnFromTrapRestores :
    (frame []).wf = true ∧ (frame []).okreturn = true ∧ adr ((frame []).word ((frame []).lbI - 4)) ≤ (frame []).lbI - 8
      ∧ (frame []).okword ((frame []).lbI - 8) = true := by decide
theorem test_witness_TrapRoundTrip :
    let s := { frame [] with pending := [8#8, 14#8] }
    s.wf = true ∧ s.defaultHandling = false ∧ s.room 10 = true ∧ s.okproc (adr s.uerrorproc) = true
      ∧ (match runOp deliver s with
        | .next t => decide (t.lbI = 72)
        | _ => false) = true := by decide
theorem test_witness_SignalTakenBetweenInstructions :
    let s := { frame [] with signals := [some 2#16, none], sigmap := [(2#16, .trap 9#8), (3#16, .ignore)] }
    s.inv = true ∧ s.status = .running ∧ sigLookup s.sigmap 2#16 = some (.trap 9#8)
      ∧ sigLookup s.sigmap 3#16 = some .ignore := by decide
theorem test_witness_DataAccessRules :
    let s := bare []
    s.maxdata < 256 ∧ s.spI < 190 ∧ (190 : Int) < s.hpI ∧ s.spI = 62 ∧ s.hpI = 192 ∧ s.spI = s.lbI - 2
      ∧ { s with lb := 0#16, sp := 65534#16 }.wf = true ∧ { s with lb := 0#16, sp := 65534#16 }.spI = -2
      ∧ { s with hp := 64#16 }.wf = true ∧ { s with hp := 64#16 }.hpI ≤ { s with hp := 64#16 }.spI + 2 := by decide

/-- A step of the machine answers a next state, from a state that satisfies the invariant. -/
theorem test_witness_EveryStepKeepsTheInvariant :
    (frame [3, 4] [129#8]).inv = true ∧ (match step (frame [3, 4] [129#8]) with
      | .next t => decide (t.top 0 = 7)
      | _ => false) = true := by decide
theorem test_witness_NoStepChangesTheProgram :
    (match step (frame [3, 4] [129#8]) with
      | .next _ => true
      | _ => false) = true := by decide
theorem test_witness_RegistersWithFewWriters :
    (match exec .add (frame [3, 4]) with
      | .next _ => true
      | _ => false) = true := by decide
/-- R64 (1): the high byte of the top word is out of reach of a byte access, but a pop reads it. -/
theorem test_reaches : (bare [1]).okadr ((bare [1]).spI + 1) = false ∧ (bare [1]).reaches ((bare [1]).spI + 1) = true
    ∧ (bare [1]).reaches ((bare [1]).spI + 2) = false ∧ (bare [1]).reaches (bare [1]).hpI = true := by decide
/-- D14: a negative procedure number. -/
theorem test_negative_procedure_number :
    (match exec (.cal (-1)) (bare []) with
      | .next t => decide (t.status = .aborted EPROC)
      | _ => false) = true := by decide
theorem test_witness_KernelReplacements :
    (frame [3, 4]).wf = true ∧ (frame [3, 4]).status = .running ∧ (frame [3, 4]).has 4 = true
      ∧ (frame [3, 4]).room 2 = true ∧ replacement (.blt 5) = some [.cmi, .zlt 5]
      ∧ replacement (.and 2) = some [.loc 2, .ans] ∧ replacement .tle = some [.tgt, .teq]
      ∧ (match exec (.and 2) (frame [3, 4]) with
        | .next t => decide (t.status = .running)
        | _ => false) = true := by decide

/-- A program: HLT at 0, one procedure without parameters at 0, a global block of two words with the values 0 and 5. -/
def program : LoadFile where
  first := List.replicate 8 0#16
  header := { ntext := 2#16, ndata := 2#16, nproc := 1#16, entry := 0#16, nline := 9#16 }
  unused := List.replicate 3 0#16
  text := [0#8, 0#8]
  abs := 1#16
  blocks := [.words [5#16]]
  descriptors := [0#8, 0#8, 0#8, 0#8]

/-- A procedure of the compact assembly language: PRO main,0,1; LOC 5; HLT; END; EOF. -/
def smallModule : List AsmStatement :=
  [.pseudo .pro [.proc [109#8], .const 0, .const 1], .instr 76 (some (.const 5)), .instr 55 none, .pseudo .endOf [],
    .pseudo .eof []]

theorem test_witness_FilesRoundTrip : program.wf = true ∧ moduleWf smallModule = true := by decide

/-- R162: a label above 32767 in a branch is read as it is written. -/
theorem test_branch_to_a_high_label :
    readStatement (AsmStatement.instr 18 (some (.const 40000))).bytes = some (.instr 18 (some (.const 40000)), [])
      ∧ readStatement [76#8, 250#8, 255#8, 255#8] = some (.instr 76 (some (.const (-1))), []) := by decide

/-- R196: LAL 0 behind which LAI 2 follows, and what replaces the two. -/
theorem test_replacement_of_a_pair :
    (match replacementPair (.lal 0) (.lai 2), execAll [.lal 0, .lai 2] (bare [16, 9]) with
      | some is, .next t =>
        (match execAll is (bare [16, 9]) with
          | .next u => decide (t.sp = u.sp ∧ t.top 0 = u.top 0 ∧ t.word 64 = 18#16 ∧ u.word 64 = 18#16)
          | _ => false)
      | _, _ => false) = true := by decide

/-- R166: the example of the source, but for the misprinted byte. -/
theorem test_compact_assembly_example :
    [AsmStatement.label 2, .label 1, .instr 76 (some (.const 10)), .instr 76 (some (.const (-10))),
      .instr 76 (some (.const 300)), .instr 18 (some (.const 19)), .label 300, .data 3,
      .pseudo .con [.const 4, .const 9, .label 2, .proc [102#8, 111#8, 111#8]],
      .instr 76 (some (.data 35))].map AsmStatement.bytes
    = [[182#8], [181#8], [76#8, 10#8], [76#8, 249#8, 10#8], [76#8, 250#8, 44#8, 1#8], [18#8, 19#8],
      [241#8, 44#8, 1#8], [242#8, 3#8], [151#8, 4#8, 9#8, 240#8, 2#8, 245#8, 3#8, 102#8, 111#8, 111#8, 255#8],
      [76#8, 242#8, 35#8]] := by decide

/-- The procedure `sum` of the example program (96_appendix3_example.md §2.2, addresses 0 to 5). -/
theorem test_assembled_procedure :
    ((assemble { absWords := 4, entry := [115#8], flags := 1#16, version := 2#16 }
      [[.pseudo .hol [.const 542], .pseudo .pro [.proc [115#8], .const 4, .const 1], .pseudo .fwc [.data 1],
        .instr 7 (some (.const 2)), .instr 73 (some (.const 8)), .instr 71 (some (.const 0)), .instr 3 none,
        .instr 100 (some (.const 2)), .pseudo .letTo [.data 1, .const 2], .pseudo .endOf [], .pseudo .eof []]]).map
      (fun f => (f.text, f.descriptors))) = some ([252#8, 195#8, 8#8, 148#8, 129#8, 200#8], [4#8, 0#8, 0#8, 0#8]) := by
  decide

/-- R154 e, R353: MRX is no mnemonic of a program. -/
theorem test_mrx_is_refused :
    assemble { absWords := 4, entry := [115#8], flags := 1#16, version := 2#16 }
      [[.pseudo .pro [.proc [115#8], .const 0, .const 1], .instr 89 (some (.const 0)), .pseudo .eof []]] = none := by
  decide

/-- R143: a module ends in EOF. -/
theorem test_a_module_ends_in_eof :
    (assemble { absWords := 4, entry := [115#8], flags := 1#16, version := 2#16 }
      [[.pseudo .pro [.proc [115#8], .const 0, .const 1], .instr 93 none, .pseudo .endOf []]]) = none := by decide

/-- R143, R165: nothing follows EOF in a compact file. -/
theorem test_nothing_follows_eof :
    readCompact [172#8, 0#8, 93#8, 153#8] = some [.instr 93 none, .pseudo .eof []]
      ∧ readCompact [172#8, 0#8, 93#8, 153#8, 93#8] = none := by decide

/-- R140: `.25185` and `.ab` are two labels of one module. -/
theorem test_labels_keep_apart :
    ownName 0 (.num 25185) ≠ ownName 0 (.name [46#8, 97#8, 98#8])
      ∧ ((assemble { absWords := 1, entry := [115#8], flags := 1#16, version := 2#16 }
        [[.pseudo .pro [.proc [115#8], .const 0, .const 1], .instr 93 none, .data 25185, .pseudo .con [.const 7],
          .symbol [46#8, 97#8, 98#8], .pseudo .con [.data 25185], .pseudo .eof []]]).map (·.blocks))
        = some [.words [7#16], .pointers [2#16]] := by decide

/-- R151: a procedure called before its PRO is known outside, unless FWP announces it. -/
theorem test_forward_procedures :
    let call : AsmStatement := .instr 19 (some (.proc [113#8]))
    let start : AsmStatement := .pseudo .pro [.proc [113#8], .const 0, .const 0]
    ownProcedures [call, start] = [] ∧ ownProcedures [.pseudo .fwp [.proc [113#8]], call, start] = [[113#8]]
      ∧ ownProcedures [start, call] = [[113#8]] := by decide

/-- R140: a comment ends with its line, whatever it holds. R141: an octal character. -/
theorem test_lines_and_strings :
    cutLines [59#8, 34#8, 10#8, 97#8, 10#8] = [[59#8, 34#8], [97#8], []]
      ∧ unescape [97#8, 92#8, 48#8, 49#8, 50#8] = some [97#8, 10#8] ∧ unescape [92#8, 48#8, 49#8, 120#8] = none
      ∧ isReal [49#8, 46#8, 53#8] = true ∧ isReal [49#8, 46#8, 53#8, 43#8, 50#8] = false
      ∧ isReal [50#8, 101#8, 45#8, 51#8] = true := by decide

theorem test_witness_StartStateOfAProgram :
    (match program.start Params.appendix1 with
      | some s => decide (s.status = .running) && decide (s.spI = 8) && decide (program.globals = [0#16, 5#16])
      | none => false) = true := by decide

end Sys2Proof.Tests
end

section
/-! Words and bytes of data memory read back after a write; which accesses are admitted (R61, R63, R64); the statement
about data accesses. -/

namespace Sys2Proof.Machine

/-! ## Words and bytes as numbers (R9, R61) -/

@[simp] theorem u16_s16 (w : Word) : u16 (s16 w) = w := BitVec.ofInt_toInt

theorem lowByte_u16 (v : Int) : lowByte (u16 v) = BitVec.ofInt 8 v := by
  apply BitVec.eq_of_toNat_eq
  simp only [lowByte, u16, BitVec.toNat_ofNat, BitVec.toNat_ofInt]
  omega

theorem highByte_u16 (v : Int) : highByte (u16 v) = BitVec.ofInt 8 (v / 256) := by
  apply BitVec.eq_of_toNat_eq
  simp only [highByte, u16, BitVec.toNat_ofNat, BitVec.toNat_ofInt]
  omega

theorem wordOf_lowByte_highByte (w : Word) : wordOf (lowByte w) (highByte w) = w := by
  apply BitVec.eq_of_toNat_eq
  have := w.isLt
  simp only [wordOf, lowByte, highByte, BitVec.toNat_ofNat]
  omega

/-! ## Reading after writing (R12, R61) -/

theorem State.wf_data {s : State} (h : s.wf = true) : s.data.wf = true := by
  simp only [State.wf, Bool.and_eq_true] at h
  simp only [h]

theorem State.byte_putByte {s : State} (h : s.wf = true) {a x : Int} (ha : 0 ≤ a) (hx : 0 ≤ x) (b : Byte) :
    (s.putByte a b).byte x = if x = a then b else s.byte x := by
  have hxa : x.toNat = a.toNat ↔ x = a := by omega
  simp only [State.byte, State.putByte_data, Memory.read_write _ (State.wf_data h), hxa]

theorem State.byte_putWord {s : State} (h : s.wf = true) {a x : Int} (ha : 0 ≤ a) (hx : 0 ≤ x) (v : Int) :
    (s.putWord a v).byte x =
      if x = a + 1 then highByte (u16 v) else if x = a then lowByte (u16 v) else s.byte x := by
  have hlow : x.toNat = a.toNat ↔ x = a := by omega
  have hhigh : x.toNat = a.toNat + 1 ↔ x = a + 1 := by omega
  have hd := State.wf_data h
  simp only [State.byte, State.putWord_data, Memory.writeWord, Memory.read_write _ (Memory.wf_write _ _ _ hd),
    Memory.read_write _ hd, hlow, hhigh]

theorem State.word_eq_wordOf (s : State) {a : Int} (ha : 0 ≤ a) : s.word a = wordOf (s.byte a) (s.byte (a + 1)) := by
  simp only [State.word, State.byte, Memory.readWord, show (a + 1).toNat = a.toNat + 1 by omega]

theorem State.word_putWord_same {s : State} (h : s.wf = true) {a : Int} (ha : 0 ≤ a) (v : Int) :
    (s.putWord a v).word a = u16 v := by
  rw [State.word_eq_wordOf _ ha, State.byte_putWord h ha ha, State.byte_putWord h ha (by omega)]
  simp [wordOf_lowByte_highByte]

theorem storesOnly_putWord {s : State} (h : s.wf = true) {a : Int} (ha : 0 ≤ a) (v : Int) :
    storesOnly s (s.putWord a v) a 2 := by
  intro x hx hout
  rw [State.byte_putWord h ha hx, if_neg (by omega), if_neg (by omega)]

theorem storesOnly_putByte {s : State} (h : s.wf = true) {a : Int} (ha : 0 ≤ a) (b : Byte) :
    storesOnly s (s.putByte a b) a 1 := by
  intro x hx hout
  rw [State.byte_putByte h ha hx, if_neg (by omega)]

/-! ## Admission (R63, R64) -/

theorem State.okadr_iff (s : State) (a : Int) :
    s.okadr a = true ↔ 0 ≤ a ∧ a ≤ s.maxdata ∧ (a ≤ s.spI ∨ s.hpI ≤ a) := by
  simp only [State.okadr, Bool.and_eq_true, decide_eq_true_eq, Bool.not_eq_true', Bool.and_eq_false_iff,
    decide_eq_false_iff_not, Int.not_lt, and_assoc]

theorem State.okword_iff (s : State) (a : Int) :
    s.okword a = true ↔ a % 2 = 0 ∧ 0 ≤ a ∧ a ≤ s.maxdata ∧ (a ≤ s.spI ∨ s.hpI ≤ a) := by
  rw [State.okword, Bool.and_eq_true, decide_eq_true_eq, State.okadr_iff]

theorem State.okadr_eq_false {s : State} {a : Int} (h : a < 0 ∨ s.maxdata < a ∨ (s.spI < a ∧ a < s.hpI)) :
    s.okadr a = false := by
  rw [← Bool.not_eq_true, State.okadr_iff]
  omega

theorem State.okword_eq_false {s : State} {a : Int}
    (h : a % 2 ≠ 0 ∨ a < 0 ∨ s.maxdata < a ∨ (s.spI < a ∧ a < s.hpI)) : s.okword a = false := by
  rw [← Bool.not_eq_true, State.okword_iff]
  omega

theorem mema_of_not_okword {s : State} {a : Int} (h : s.okword a = false) : mema a s = .error () (s.abort EPTR) := by
  simp only [mema_spec, h]
  rfl

theorem memw_of_not_okword {s : State} {a : Int} (h : s.okword a = false) : memw a s = .error () (s.abort EPTR) := by
  simp only [memw_spec, h]
  rfl

theorem store_of_not_okword {s : State} {a : Int} (h : s.okword a = false) (v : Int) :
    store a v s = .error () (s.abort EPTR) := by
  simp only [store_spec, h]
  rfl

theorem memb_of_not_okadr {s : State} {a : Int} (h : s.okadr a = false) : memb a s = .error () (s.abort EPTR) := by
  simp only [memb_spec, h]
  rfl

theorem storeb_of_not_okadr {s : State} {a : Int} (h : s.okadr a = false) (b : Byte) :
    storeb a b s = .error () (s.abort EPTR) := by
  simp only [storeb_spec, h]
  rfl

theorem mema_of_okword {s : State} {a : Int} (h : s.okword a = true) : mema a s = .ok (adr (s.word a)) s := by
  simp [mema_spec, h]

theorem memw_of_okword {s : State} {a : Int} (h : s.okword a = true) : memw a s = .ok (s16 (s.word a)) s := by
  simp [memw_spec, h]

theorem store_of_okword {s : State} {a : Int} (h : s.okword a = true) (v : Int) :
    store a v s = .ok () (s.putWord a v) := by
  simp [store_spec, h]

theorem memb_of_okadr {s : State} {a : Int} (h : s.okadr a = true) : memb a s = .ok ((s.byte a).toNat : Int) s := by
  simp [memb_spec, h]

theorem storeb_of_okadr {s : State} {a : Int} (h : s.okadr a = true) (b : Byte) :
    storeb a b s = .ok () (s.putByte a b) := by
  simp [storeb_spec, h]

/-! ## Pops below the frame and below address 0 (R15) -/

theorem newsp_below_frame {s : State} {a : Int} (ha : a < s.lbI - 2) : newsp a s = .error () (s.abort ESTACK) := by
  have hno : s.oksp a = false := by
    rw [← Bool.not_eq_true]
    simp only [State.oksp, Bool.and_eq_true, decide_eq_true_eq]
    omega
  simp only [newsp_spec, hno]
  rfl

theorem popw_eq (s : State) :
    popw s = (memw s.spI >>= fun r => newsp (s.spI - 2) >>= fun _ => pure r) s := Op.get_bind _ s

theorem popa_eq (s : State) :
    popa s = (mema s.spI >>= fun r => newsp (s.spI - 2) >>= fun _ => pure r) s := Op.get_bind _ s

/-- Where the frame is empty a pop reads the word under it and then refuses to lower SP. -/
theorem popw_of_empty_frame {s : State} (h : s.wf = true) (he : s.spI = s.lbI - 2) (h0 : 0 ≤ s.spI) :
    popw s = .error () (s.abort ESTACK) :=
  calc popw s = _ := popw_eq s
    _ = _ := Op.bind_of_ok (memw_of_okword (State.okword_top h h0))
    _ = _ := Op.bind_of_error (newsp_below_frame (by omega))

theorem popa_of_empty_frame {s : State} (h : s.wf = true) (he : s.spI = s.lbI - 2) (h0 : 0 ≤ s.spI) :
    popa s = .error () (s.abort ESTACK) :=
  calc popa s = _ := popa_eq s
    _ = _ := Op.bind_of_ok (mema_of_okword (State.okword_top h h0))
    _ = _ := Op.bind_of_error (newsp_below_frame (by omega))

theorem popw_of_negative_sp {s : State} (h0 : s.spI < 0) : popw s = .error () (s.abort EPTR) :=
  (popw_eq s).trans (Op.bind_of_error (memw_of_not_okword (State.okword_eq_false (.inr (.inl h0)))))

theorem popa_of_negative_sp {s : State} (h0 : s.spI < 0) : popa s = .error () (s.abort EPTR) :=
  (popa_eq s).trans (Op.bind_of_error (mema_of_not_okword (State.okword_eq_false (.inr (.inl h0)))))

/-! ## The statement about data accesses -/

theorem word_access_refused {s : State} {a : Int} (v : Int)
    (hno : a % 2 ≠ 0 ∨ a < 0 ∨ s.maxdata < a ∨ (s.spI < a ∧ a < s.hpI)) :
    runOp (store a v) s = .next (s.abort EPTR) ∧ EStateM.run (mema a) s = .error () (s.abort EPTR) ∧
      EStateM.run (memw a) s = .error () (s.abort EPTR) := by
  have hf := State.okword_eq_false hno
  exact ⟨runOp_of_error (store_of_not_okword hf v), mema_of_not_okword hf, memw_of_not_okword hf⟩

theorem word_access_admitted {s : State} (h : s.wf = true) {a : Int} (v : Int) (hok : s.okword a = true) :
    EStateM.run (mema a) s = .ok (adr (s.word a)) s ∧ EStateM.run (memw a) s = .ok (s16 (s.word a)) s ∧
      runOp (store a v) s = .next (s.putWord a v) ∧ (s.putWord a v).word a = u16 v ∧
      (s.putWord a v).byte a = BitVec.ofInt 8 v ∧ (s.putWord a v).byte (a + 1) = BitVec.ofInt 8 (v / 256) ∧
      storesOnly s (s.putWord a v) a 2 := by
  obtain ⟨_, h0, _⟩ := (State.okword_iff s a).1 hok
  refine ⟨mema_of_okword hok, memw_of_okword hok, runOp_of_ok (store_of_okword hok v),
    State.word_putWord_same h h0 v, ?_, ?_, storesOnly_putWord h h0 v⟩
  · rw [State.byte_putWord h h0 h0, if_neg (by omega), if_pos rfl, lowByte_u16]
  · rw [State.byte_putWord h h0 (by omega), if_pos rfl, highByte_u16]

theorem byte_access_refused {s : State} {a : Int} (b : Byte)
    (hno : a < 0 ∨ s.maxdata < a ∨ (s.spI < a ∧ a < s.hpI)) :
    runOp (storeb a b) s = .next (s.abort EPTR) ∧ EStateM.run (memb a) s = .error () (s.abort EPTR) := by
  have hf := State.okadr_eq_false hno
  exact ⟨runOp_of_error (storeb_of_not_okadr hf b), memb_of_not_okadr hf⟩

theorem byte_access_admitted {s : State} (h : s.wf = true) {a : Int} (b : Byte) (hok : s.okadr a = true) :
    EStateM.run (memb a) s = .ok ((s.byte a).toNat : Int) s ∧ runOp (storeb a b) s = .next (s.putByte a b) ∧
      (s.putByte a b).byte a = b ∧ storesOnly s (s.putByte a b) a 1 := by
  obtain ⟨h0, _⟩ := (State.okadr_iff s a).1 hok
  refine ⟨memb_of_okadr hok, runOp_of_ok (storeb_of_okadr hok b), ?_, storesOnly_putByte h h0 b⟩
  rw [State.byte_putByte h h0 h0, if_pos rfl]

/-- Settles O54: word accesses, byte accesses, pushes and pops, each from the lemmas above. -/
theorem dataAccessRules : Obligations.DataAccessRules := by
  refine ⟨fun s a v h => ⟨word_access_refused v, fun heven h0 hmax hgap => ?_⟩,
    fun s a b h => ⟨byte_access_refused b, fun h0 hmax hgap => ?_⟩,
    fun s v h => ⟨fun hfull => ?_, fun hroom => ?_, fun he h0 => ?_, fun hneg => ?_, fun hh => ?_⟩⟩
  · exact word_access_admitted h v ((State.okword_iff s a).2 ⟨heven, h0, hmax, hgap⟩)
  · exact byte_access_admitted h b ((State.okadr_iff s a).2 ⟨h0, hmax, hgap⟩)
  · have hr : s.room 2 = false := decide_eq_false (by omega)
    exact runOp_of_error (by simp only [push_spec h, hr]; rfl)
  · exact runOp_of_ok (by simp [push_spec h, hroom])
  · have hw := popw_of_empty_frame h he h0
    exact ⟨hw, popa_of_empty_frame h he h0, runOp_of_error (Op.bind_of_error hw)⟩
  · exact ⟨popw_of_negative_sp (by omega), popa_of_negative_sp (by omega)⟩
  · exact ⟨popw_spec h hh, popa_spec h hh⟩

end Sys2Proof.Machine
end

section
/-! Popped operands, conditions that do not stop the machine, and results pushed in their place (R15, R16, R412); the
statements about ADD, SUB and MUL and about the shifts and rotates. -/

namespace Sys2Proof.Machine

/-! ## The frame after a pop (R15) -/

theorem State.has_iff (s : State) (n : Int) : s.has n = true ↔ s.lbI ≤ s.spI + 2 - n := decide_eq_true_iff

theorem State.has_of_le {s : State} {m n : Int} (hn : s.has n = true) (hmn : m ≤ n) : s.has m = true := by
  rw [State.has_iff] at *
  omega

@[simp] theorem State.drop_word (s : State) (n x : Int) : (s.drop n).word x = s.word x := rfl

theorem State.drop_spI {s : State} {n : Int} (h : s.wf = true) (h0 : 0 ≤ n) (hn : s.has n = true) :
    (s.drop n).spI = s.spI - n := by
  have := State.wf_registers h
  rw [State.has_iff] at hn
  exact State.spI_setSp s (by omega) (by omega)

theorem State.drop_drop {s : State} {m : Int} (h : s.wf = true) (h0 : 0 ≤ m) (hm : s.has m = true) (n : Int) :
    (s.drop m).drop n = s.drop (m + n) := by
  show s.setSp ((s.drop m).spI - n) = s.setSp (s.spI - (m + n))
  rw [State.drop_spI h h0 hm, Int.sub_sub]

theorem State.drop_has {s : State} {m : Int} (h : s.wf = true) (h0 : 0 ≤ m) (hm : s.has m = true) {n : Int}
    (hn : s.has (m + n) = true) : (s.drop m).has n = true := by
  rw [State.has_iff] at hn ⊢
  rw [State.drop_spI h h0 hm]
  have : (s.drop m).lbI = s.lbI := rfl
  omega

theorem State.drop_top {s : State} (h : s.wf = true) (h2 : s.has 2 = true) (i : Int) :
    (s.drop 2).top i = s.top (i + 1) := by
  simp only [State.top, State.drop_word, State.drop_spI h (by decide) h2]
  rw [show s.spI - 2 - 2 * i = s.spI - 2 * (i + 1) by omega]

theorem State.drop_topA {s : State} (h : s.wf = true) (h2 : s.has 2 = true) (i : Int) :
    (s.drop 2).topA i = s.topA (i + 1) := by
  simp only [State.topA, State.drop_word, State.drop_spI h (by decide) h2]
  rw [show s.spI - 2 - 2 * i = s.spI - 2 * (i + 1) by omega]

/-! ## Errors queued (R412) -/

@[simp] theorem State.raiseAll_nil (s : State) : s.raiseAll [] = s := by simp [State.raiseAll]

@[simp] theorem State.raiseAll_raiseAll (s : State) (ms ns : List Byte) :
    (s.raiseAll ms).raiseAll ns = s.raiseAll (ms ++ ns) := by simp [State.raiseAll]

@[simp] theorem State.raiseAll_drop (s : State) (ns : List Byte) (n : Int) :
    (s.raiseAll ns).drop n = (s.drop n).raiseAll ns := rfl
@[simp] theorem State.raiseAll_top (s : State) (ns : List Byte) (i : Int) : (s.raiseAll ns).top i = s.top i := rfl
@[simp] theorem State.raiseAll_topA (s : State) (ns : List Byte) (i : Int) : (s.raiseAll ns).topA i = s.topA i := rfl
@[simp] theorem State.raiseAll_abort (s : State) (ns : List Byte) (n : Byte) :
    (s.raiseAll ns).abort n = s.abort n := rfl

theorem State.tolerates_append (s : State) (ms ns : List Byte) :
    s.tolerates (ms ++ ns) = true ↔ s.tolerates ms = true ∧ s.tolerates ns = true := by
  cases ms <;> cases ns <;> simp [State.tolerates]

/-- A non-fatal error that does not stop the machine is queued. -/
theorem trap_of_tolerated {n : Byte} (hf : isFatal n = false) {s : State} {ns : List Byte}
    (ht : s.tolerates (n :: ns) = true) : trap n s = .ok () (s.raiseAll [n]) := by
  have hd : s.defaultHandling = false := by simpa [State.tolerates] using ht
  simp only [trap_spec, hf, hd]
  rfl

/-- A test whose failure does not stop the machine queues its error or does nothing. -/
theorem require_of_tolerated {n : Byte} (hf : isFatal n = false) {s : State} {c : Bool}
    (ht : s.tolerates (raisedIf (!c) n) = true) : require c n s = .ok () (s.raiseAll (raisedIf (!c) n)) := by
  cases c with
  | true => simp [require_spec, raisedIf]
  | false => exact trap_of_tolerated hf ht

theorem argi_spec {s : State} {w : Int} (ht : s.tolerates (raisedIf (decide (w = -32768)) EIUND) = true) :
    argi w s = .ok w (s.raiseAll (raisedIf (decide (w = -32768)) EIUND)) := by
  have hc : (!!isUndef w) = decide (w = -32768) := Bool.not_not _
  have hr := require_of_tolerated (c := !isUndef w) (n := EIUND) (by decide) (hc ▸ ht)
  exact Op.bind_of_ok (hc ▸ hr)

theorem chkovf_spec {s : State} {z : Int} (ht : s.tolerates (raisedIf (decide (32768 ≤ z.natAbs)) EIOVFL) = true) :
    chkovf z s = .ok z (s.raiseAll (raisedIf (decide (32768 ≤ z.natAbs)) EIOVFL)) := by
  have hc : (!!overflows z) = decide (32768 ≤ z.natAbs) := Bool.not_not _
  have hr := require_of_tolerated (c := !overflows z) (n := EIOVFL) (by decide) (hc ▸ ht)
  exact Op.bind_of_ok (hc ▸ hr)

/-! ## Popped pairs (R235) -/

/-- The second of two pops, whatever was queued between them. -/
theorem popw_second {s : State} (h : s.wf = true) (h4 : s.has 4 = true) (ns : List Byte) :
    popw ((s.drop 2).raiseAll ns) = .ok (s.top 1) ((s.drop 4).raiseAll ns) := by
  have h2 := State.has_of_le h4 (show (2 : Int) ≤ 4 by decide)
  obtain ⟨hw, _⟩ := State.drop_wf h (by decide) (by decide) h2
  have hp := popw_spec (s := (s.drop 2).raiseAll ns) hw (State.drop_has h (by decide) h2 h4)
  simpa [State.drop_top h h2, State.drop_drop h (by decide) h2] using hp

theorem popa_second {s : State} (h : s.wf = true) (h4 : s.has 4 = true) (ns : List Byte) :
    popa ((s.drop 2).raiseAll ns) = .ok (s.topA 1) ((s.drop 4).raiseAll ns) := by
  have h2 := State.has_of_le h4 (show (2 : Int) ≤ 4 by decide)
  obtain ⟨hw, _⟩ := State.drop_wf h (by decide) (by decide) h2
  have hp := popa_spec (s := (s.drop 2).raiseAll ns) hw (State.drop_has h (by decide) h2 h4)
  simpa [State.drop_topA h h2, State.drop_drop h (by decide) h2] using hp

theorem popWordPair_spec {s : State} (h : s.wf = true) (h4 : s.has 4 = true) :
    popWordPair s = .ok (s.top 1, s.top 0) (s.drop 4) := by
  have h2 := State.has_of_le h4 (show (2 : Int) ≤ 4 by decide)
  have hp : popw (s.drop 2) = .ok (s.top 1) (s.drop 4) := by simpa using popw_second h h4 []
  exact (Op.bind_of_ok (popw_spec h h2)).trans (Op.bind_of_ok hp)

/-- What taking the two words on top as integers raises (R16): the right operand's error first. -/
def integerRaises (s : State) : List Byte :=
  raisedIf (decide (s.top 0 = -32768)) EIUND ++ raisedIf (decide (s.top 1 = -32768)) EIUND

theorem popIntegers_spec {s : State} (h : s.wf = true) (h4 : s.has 4 = true)
    (ht : s.tolerates (integerRaises s) = true) :
    popIntegers s = .ok (s.top 1, s.top 0) ((s.drop 4).raiseAll (integerRaises s)) := by
  obtain ⟨hr, hl⟩ := (State.tolerates_append s _ _).1 ht
  have hright : popw s = .ok (s.top 0) (s.drop 2) := popw_spec h (State.has_of_le h4 (by decide))
  calc popIntegers s
      = _ := Op.bind_of_ok hright
    _ = _ := Op.bind_of_ok (argi_spec hr)
    _ = _ := Op.bind_of_ok (popw_second h h4 _)
    _ = _ := Op.bind_of_ok (argi_spec hl)
    _ = .ok (s.top 1, s.top 0) ((s.drop 4).raiseAll (integerRaises s)) := by
        rw [State.raiseAll_raiseAll]
        rfl

/-! ## A result pushed in the place of two operands -/

/-- There is room for one word where two were popped. -/
theorem push_after_two_pops {s : State} (h : s.wf = true) (h4 : s.has 4 = true) (ns : List Byte) (v : Int) :
    push v ((s.drop 4).raiseAll ns) = .ok () (((s.drop 4).raiseAll ns).pushed v) := by
  obtain ⟨hw, he⟩ := State.drop_wf h (by decide) (by decide) h4
  have hr : ((s.drop 4).raiseAll ns).room 2 = true := by
    have := State.wf_registers h
    have hhp : (s.drop 4).hpI = s.hpI := rfl
    show decide ((s.drop 4).spI + 2 < (s.drop 4).hpI) = true
    rw [decide_eq_true_eq]
    omega
  simp [push_spec (s := (s.drop 4).raiseAll ns) hw, hr]

theorem storesOnly_after_two_pops {s : State} (h : s.wf = true) (h4 : s.has 4 = true) (ns : List Byte) (v : Int) :
    storesOnly s (((s.drop 4).raiseAll ns).pushed v) (s.spI - 2) 2 := by
  obtain ⟨hw, he⟩ := State.drop_wf h (by decide) (by decide) h4
  have hsp : ((s.drop 4).raiseAll ns).spI + 2 = s.spI - 2 := by
    show (s.drop 4).spI + 2 = s.spI - 2
    omega
  have h0 : 0 ≤ s.spI - 2 := by
    have := State.wf_registers h
    have := (State.has_iff s 4).1 h4
    omega
  intro x hx hout
  have hb := storesOnly_putWord (s := (s.drop 4).raiseAll ns) hw h0 v x hx hout
  rw [State.pushed, hsp]
  exact hb

/-- An instruction that takes two words and pushes one completes where its statements do. -/
theorem completes_two_to_one {i : Instr} {m : Op Unit} {s : State} {ns : List Byte} {v : Int} (h : s.wf = true)
    (h4 : s.has 4 = true) (hx : exec i s = runOp m s) (hm : m s = .ok () (((s.drop 4).raiseAll ns).pushed v)) :
    completes i s (((s.drop 4).raiseAll ns).pushed v) (s.spI - 2) 2 :=
  ⟨hx.trans (runOp_of_ok hm), rfl, storesOnly_after_two_pops h h4 ns v⟩

/-- Integer arithmetic on two operands with one exact result, tested for overflow (R236 to R238). -/
theorem completes_checked {i : Instr} (op : Int → Int → Int) {s : State} (h : s.wf = true) (h4 : s.has 4 = true)
    (hx : exec i s = runOp (popIntegers >>= fun p => chkovf (op p.1 p.2) >>= fun z => push z) s) {ns : List Byte}
    (hns : ns = integerRaises s ++ raisedIf (decide (32768 ≤ (op (s.top 1) (s.top 0)).natAbs)) EIOVFL)
    (ht : s.tolerates ns = true) :
    completes i s (((s.drop 4).raiseAll ns).pushed (op (s.top 1) (s.top 0))) (s.spI - 2) 2 := by
  subst hns
  obtain ⟨hund, hovf⟩ := (State.tolerates_append s _ _).1 ht
  refine completes_two_to_one h h4 hx ((Op.bind_of_ok (popIntegers_spec h h4 hund)).trans ?_)
  refine (Op.bind_of_ok (chkovf_spec (s := (s.drop 4).raiseAll (integerRaises s)) hovf)).trans ?_
  rw [State.raiseAll_raiseAll]
  exact push_after_two_pops h h4 _ _

/-- Settles O14: each of the three is the checked arithmetic of its own operation. -/
theorem addSubMulResults : Obligations.AddSubMulResults := by
  rintro s i z ns h h4 (⟨rfl, rfl⟩ | ⟨rfl, rfl⟩ | ⟨rfl, rfl⟩) hns ht
  · exact completes_checked (· + ·) h h4 rfl hns ht
  · exact completes_checked (· - ·) h h4 rfl hns ht
  · exact completes_checked (· * ·) h h4 rfl hns ht

/-! ## Shifts (R17, R242, R243) -/

theorem srightTimes_eq (n : Nat) : ∀ w : Int, srightTimes n w = w / 2 ^ n := by
  induction n with
  | zero => intro w; simp [srightTimes]
  | succ n ih =>
    intro w
    rw [srightTimes, ih, Int.ediv_ediv_of_nonneg (by decide), Int.pow_succ']

/-- As long as every value can be doubled, nothing is raised. -/
theorem sleftTimes_of_small (n : Nat) (s : State) : ∀ (j : Nat) (w : Int),
    (∀ m : Nat, m < j → (w * 2 ^ m).natAbs < 16384) → sleftTimes (j + n) w s = sleftTimes n (w * 2 ^ j) s := by
  intro j
  induction j with
  | zero => intro w _; simp
  | succ j ih =>
    intro w hsmall
    have hno : overflowsLeft w = false := decide_eq_false (by simpa using hsmall 0 (by omega))
    have hdouble : ∀ m : Nat, 2 * w * 2 ^ m = w * 2 ^ (m + 1) := fun m => by ring
    have hnext := ih (2 * w) fun m hm => by rw [hdouble]; exact hsmall (m + 1) (by omega)
    calc sleftTimes (j + 1 + n) w s
        = sleftTimes (j + n + 1) w s := by rw [Nat.add_right_comm]
      _ = sleftTimes (j + n) (2 * w) s := by simp [sleftTimes, hno]
      _ = sleftTimes n (w * 2 ^ (j + 1)) s := by rw [hnext, hdouble]

/-- A value that cannot be doubled stays as it is, with one error a step. -/
theorem sleftTimes_of_large {w : Int} (hw : 16384 ≤ w.natAbs) (n : Nat) : ∀ s : State,
    s.tolerates (List.replicate n EIOVFL) = true →
    sleftTimes n w s = .ok w (s.raiseAll (List.replicate n EIOVFL)) := by
  induction n with
  | zero => intro s _; simp [sleftTimes, pure, EStateM.pure]
  | succ n ih =>
    intro s ht
    have hyes : overflowsLeft w = true := decide_eq_true hw
    have hrest : (s.raiseAll [EIOVFL]).tolerates (List.replicate n EIOVFL) = true :=
      ((State.tolerates_append s [EIOVFL] _).1 ht).2
    calc sleftTimes (n + 1) w s
        = (trap EIOVFL >>= fun _ => sleftTimes n w) s := by simp [sleftTimes, hyes]
      _ = sleftTimes n w (s.raiseAll [EIOVFL]) := Op.bind_of_ok (trap_of_tolerated (by decide) ht)
      _ = .ok w (s.raiseAll (List.replicate (n + 1) EIOVFL)) := by
          rw [ih _ hrest, State.raiseAll_raiseAll, List.replicate_succ, List.singleton_append]

/-- `n` doublings: `j` of them are made, each of the others raises EIOVFL. -/
theorem sleftTimes_spec {n j : Nat} {w : Int} {s : State} (hj : j ≤ n) (hlast : j = n ∨ 16384 ≤ (w * 2 ^ j).natAbs)
    (hsmall : ∀ m : Nat, m < j → (w * 2 ^ m).natAbs < 16384)
    (ht : s.tolerates (List.replicate (n - j) EIOVFL) = true) :
    sleftTimes n w s = .ok (w * 2 ^ j) (s.raiseAll (List.replicate (n - j) EIOVFL)) := by
  have hmade := sleftTimes_of_small (n - j) s j w hsmall
  rw [Nat.add_sub_cancel' hj] at hmade
  rw [hmade]
  rcases hlast with rfl | hlarge
  · simp [sleftTimes, pure, EStateM.pure]
  · exact sleftTimes_of_large hlarge _ s ht

/-! ## Rotates (R17, R294, R295) -/

/-- Bit numbers of a rotated word count modulo 16. -/
theorem getLsbD_rotateLeft_word (w : Word) {n i : Nat} (hn : n < 16) (hi : i < 16) :
    (w.rotateLeft n).getLsbD i = w.getLsbD ((i + 16 - n) % 16) := by
  rw [BitVec.getLsbD_rotateLeft, Nat.mod_eq_of_lt hn]
  by_cases h : i < n
  · rw [show (i + 16 - n) % 16 = 16 - n + i by omega]
    simp [h]
  · rw [show (i + 16 - n) % 16 = i - n by omega]
    simp [h, hi]

theorem getLsbD_rotateRight_word (w : Word) {n i : Nat} (hn : n < 16) (hi : i < 16) :
    (w.rotateRight n).getLsbD i = w.getLsbD ((i + n) % 16) := by
  rw [BitVec.getLsbD_rotateRight, Nat.mod_eq_of_lt hn]
  by_cases h : i < 16 - n
  · rw [show (i + n) % 16 = n + i by omega]
    simp [h]
  · rw [show (i + n) % 16 = i - (16 - n) by omega]
    simp [h, hi]

theorem rleft_rotateLeft (w : Word) {n : Nat} (hn : n < 15) : (rleft w).rotateLeft n = w.rotateLeft (n + 1) := by
  have hone : rleft w = w.rotateLeft 1 := by rw [BitVec.rotateLeft_def]; rfl
  apply BitVec.eq_of_getLsbD_eq
  intro i hi
  rw [hone, getLsbD_rotateLeft_word _ (by omega) hi, getLsbD_rotateLeft_word _ (by decide) (by omega),
    getLsbD_rotateLeft_word _ (by omega) hi]
  exact congrArg w.getLsbD (by omega)

theorem rright_rotateRight (w : Word) {n : Nat} (hn : n < 15) :
    (rright w).rotateRight n = w.rotateRight (n + 1) := by
  have hone : rright w = w.rotateRight 1 := by rw [BitVec.rotateRight_def]; rfl
  apply BitVec.eq_of_getLsbD_eq
  intro i hi
  rw [hone, getLsbD_rotateRight_word _ (by omega) hi, getLsbD_rotateRight_word _ (by decide) (by omega),
    getLsbD_rotateRight_word _ (by omega) hi]
  exact congrArg w.getLsbD (by omega)

theorem rleftTimes_eq (n : Nat) : ∀ w : Word, n < 16 → rleftTimes n w = w.rotateLeft n := by
  induction n with
  | zero =>
    intro w hn
    apply BitVec.eq_of_getLsbD_eq
    intro i hi
    rw [getLsbD_rotateLeft_word w hn hi]
    exact congrArg w.getLsbD (by omega)
  | succ n ih => intro w hn; rw [rleftTimes, ih _ (by omega), rleft_rotateLeft w (by omega)]

theorem rrightTimes_eq (n : Nat) : ∀ w : Word, n < 16 → rrightTimes n w = w.rotateRight n := by
  induction n with
  | zero =>
    intro w hn
    apply BitVec.eq_of_getLsbD_eq
    intro i hi
    rw [getLsbD_rotateRight_word w hn hi]
    exact congrArg w.getLsbD (by omega)
  | succ n ih => intro w hn; rw [rrightTimes, ih _ (by omega), rright_rotateRight w (by omega)]

/-! ## The statement about shifts and rotates -/

/-- A legal count is no undefined integer: only the shifted word can raise EIUND. -/
theorem integerRaises_of_legal_count {s : State} (h0 : 0 ≤ s.top 0) :
    integerRaises s = raisedIf (decide (s.top 1 = -32768)) EIUND := by
  have hno : decide (s.top 0 = -32768) = false := decide_eq_false (by omega)
  simp [integerRaises, hno, raisedIf]

theorem completes_shr {s : State} (h : s.wf = true) (h4 : s.has 4 = true) (h0 : 0 ≤ s.top 0) (h15 : s.top 0 ≤ 15)
    (ht : s.tolerates (integerRaises s) = true) :
    completes .shr s (((s.drop 4).raiseAll (integerRaises s)).pushed (s.top 1 / 2 ^ (s.top 0).toNat))
      (s.spI - 2) 2 := by
  refine completes_two_to_one h h4 rfl ((Op.bind_of_ok (popIntegers_spec h h4 ht)).trans ?_)
  simp only [h0, h15, and_self, if_true, srightTimes_eq]
  exact push_after_two_pops h h4 _ _

theorem completes_shl {s : State} (h : s.wf = true) (h4 : s.has 4 = true) (h0 : 0 ≤ s.top 0) (h15 : s.top 0 ≤ 15)
    {v : Int} {ovf : List Byte} (ht : s.tolerates (integerRaises s) = true)
    (hv : sleftTimes (s.top 0).toNat (s.top 1) ((s.drop 4).raiseAll (integerRaises s))
      = .ok v (((s.drop 4).raiseAll (integerRaises s)).raiseAll ovf)) :
    completes .shl s (((s.drop 4).raiseAll (integerRaises s ++ ovf)).pushed v) (s.spI - 2) 2 := by
  refine completes_two_to_one h h4 rfl ((Op.bind_of_ok (popIntegers_spec h h4 ht)).trans ?_)
  simp only [h0, h15, and_self, if_true]
  refine (Op.bind_of_ok hv).trans ?_
  rw [State.raiseAll_raiseAll]
  exact push_after_two_pops h h4 _ _

theorem u16_top_one (s : State) : u16 (s.top 1) = s.word (s.spI - 2) := u16_s16 _

theorem completes_rol {s : State} (h : s.wf = true) (h4 : s.has 4 = true) (h0 : 0 ≤ s.top 0) (h15 : s.top 0 ≤ 15) :
    completes .rol s ((s.drop 4).pushed (adr ((s.word (s.spI - 2)).rotateLeft (s.top 0).toNat))) (s.spI - 2) 2 := by
  rw [← State.raiseAll_nil (s.drop 4)]
  refine completes_two_to_one h h4 rfl ((Op.bind_of_ok (popWordPair_spec h h4)).trans ?_)
  simp only [h0, h15, and_self, if_true, rleftTimes_eq _ _ (show (s.top 0).toNat < 16 by omega), u16_top_one]
  simpa using push_after_two_pops h h4 [] _

theorem completes_ror {s : State} (h : s.wf = true) (h4 : s.has 4 = true) (h0 : 0 ≤ s.top 0) (h15 : s.top 0 ≤ 15) :
    completes .ror s ((s.drop 4).pushed (adr ((s.word (s.spI - 2)).rotateRight (s.top 0).toNat))) (s.spI - 2) 2 := by
  rw [← State.raiseAll_nil (s.drop 4)]
  refine completes_two_to_one h h4 rfl ((Op.bind_of_ok (popWordPair_spec h h4)).trans ?_)
  simp only [h0, h15, and_self, if_true, rrightTimes_eq _ _ (show (s.top 0).toNat < 16 by omega), u16_top_one]
  simpa using push_after_two_pops h h4 [] _

/-- Settles O18: each instruction from the lemma about its loop. -/
theorem shiftsAndRotatesByLegalCounts : Obligations.ShiftsAndRotatesByLegalCounts := by
  refine ⟨fun s j und ovf h h4 h0 h15 hund ht => ?_, fun s h h4 h0 h15 =>
    ⟨completes_rol h h4 h0 h15, completes_ror h h4 h0 h15⟩⟩
  obtain rfl : und = integerRaises s := hund.trans (integerRaises_of_legal_count h0).symm
  refine ⟨completes_shr h h4 h0 h15 ht, fun hj hlast hsmall hovf htall => ?_⟩
  subst hovf
  have htovf := ((State.tolerates_append s _ _).1 htall).2
  exact completes_shl h h4 h0 h15 ht
    (sleftTimes_spec (by omega) (hlast.imp_left fun _ => by omega) hsmall htovf)

end Sys2Proof.Machine
end

section
/-! Operands outside their class (R16, R118) and the sizes a subscript calculation refuses (R305); the statement about
both. -/

namespace Sys2Proof.Machine

/-! ## Operands outside their class (R16) -/

/-- A test that fails with a fatal error stops the machine. -/
theorem require_of_fatal {n : Byte} (hf : isFatal n = true) {c : Bool} (hc : c = false) (s : State) :
    require c n s = .error () (s.abort n) := by
  rw [require_spec, hc]
  exact trap_of_fatal hf s

theorem argn_rejects {k : Int} (hk : isN k = false) (s : State) : argn k s = .error () (s.abort EILLINS) :=
  Op.bind_of_error (require_of_fatal (by decide) hk s)

theorem argx_rejects {k : Int} (hk : isX k = false) (s : State) : argx k s = .error () (s.abort EILLINS) :=
  Op.bind_of_error (require_of_fatal (by decide) hk s)

theorem argp_rejects {k : Int} (hk : isP k = false) (s : State) : argp k s = .error () (s.abort EILLINS) :=
  Op.bind_of_error (require_of_fatal (by decide) hk s)

theorem argy_rejects {k : Int} (hk : isY k = false) (s : State) : argy k s = .error () (s.abort EILLINS) :=
  Op.bind_of_error (require_of_fatal (by decide) hk s)

theorem argz_rejects {k : Int} (hk : isZ k = false) (s : State) : argz k s = .error () (s.abort EILLINS) :=
  Op.bind_of_error (require_of_fatal (by decide) hk s)

/-- An instruction whose first statement stops ends in the stopped machine. -/
theorem exec_of_first_stops {i : Instr} {s t : State} {α : Type} {m : Op α} {f : α → Op Unit}
    (hm : m s = .error () t) (hx : exec i s = runOp (m >>= f) s) : exec i s = .next t :=
  hx.trans (runOp_of_error (Op.bind_of_error hm))

/-- The same where one statement goes before it. -/
theorem exec_of_second_stops {i : Instr} {s t u : State} {α β : Type} {p : Op α} {a : α} {m : α → Op β}
    {f : α → β → Op Unit} (hp : p s = .ok a u) (hm : m a u = .error () t)
    (hx : exec i s = runOp (p >>= fun a => m a >>= f a) s) : exec i s = .next t :=
  hx.trans (runOp_of_error ((Op.bind_of_ok hp).trans (Op.bind_of_error hm)))

/-! ## The subscript calculation (R305) -/

/-- An even offset into an admitted block is an admitted word. -/
theorem State.okword_of_okblock {s : State} (h : s.wf = true) {a n : Int} (hb : s.okblock a n = true) {j : Int}
    (h0 : 0 ≤ j) (heven : j % 2 = 0) (hj : j + 2 ≤ n) : s.okword (a + j) = true := by
  have := State.wf_registers h
  simp only [State.okblock, Bool.and_eq_true, Bool.or_eq_true, decide_eq_true_eq] at hb
  rw [State.okword_iff]
  omega

/-- The test of the element size (R305). -/
def elementSizeOk (k : Int) : Bool := decide (0 ≤ k) && (decide (k ≤ 1) || decide (k % 2 = 0))

/-- The subscript calculation up to its test of the element size: the index is popped, the descriptor read, EARRAY
queued. -/
theorem arraycalc_to_size_test {s : State} {x : Int} (h : s.wf = true) (h2 : s.has 2 = true)
    (hb : (s.drop 2).okblock x 6 = true) (ht : s.tolerates (arrayRaises x s) = true) :
    arraycalc x s = (require (elementSizeOk (s.arraySize x)) EODDZ >>= fun _ => popa >>= fun base =>
        pure ((s.top 0 - s.arrayLower x) * s.arraySize x + base))
      ((s.drop 2).raiseAll (arrayRaises x s)) := by
  obtain ⟨hw, _⟩ := State.drop_wf h (by decide) (by decide) h2
  have hread : ∀ j : Int, 0 ≤ j → j % 2 = 0 → j + 2 ≤ 6 → memw (x + j) (s.drop 2) = .ok (s16 (s.word (x + j))) (s.drop 2) :=
    fun j h0 he hj => memw_of_okword (State.okword_of_okblock hw hb h0 he hj)
  have hlower : memw x (s.drop 2) = .ok (s.arrayLower x) (s.drop 2) := by
    rw [← Int.add_zero x]
    exact hread 0 (by decide) (by decide) (by decide)
  have hinside : (!(decide (0 ≤ s.top 0 - s.arrayLower x) && decide (s.top 0 - s.arrayLower x ≤ s.arrayRange x)))
      = (decide (s.top 0 < s.arrayLower x) || decide (s.arrayLower x + s.arrayRange x < s.top 0)) := by
    rw [Bool.eq_iff_iff]
    simp only [Bool.not_eq_true', Bool.and_eq_false_iff, Bool.or_eq_true, decide_eq_true_eq, decide_eq_false_iff_not]
    omega
  have htest := require_of_tolerated (n := EARRAY) (by decide) (s := s.drop 2)
    (c := decide (0 ≤ s.top 0 - s.arrayLower x) && decide (s.top 0 - s.arrayLower x ≤ s.arrayRange x)) (by rwa [hinside])
  rw [hinside] at htest
  have hsize : memw (x + 4) ((s.drop 2).raiseAll (arrayRaises x s))
      = .ok (s.arraySize x) ((s.drop 2).raiseAll (arrayRaises x s)) :=
    memw_of_okword (State.okword_of_okblock hw hb (by decide) (by decide) (by decide))
  calc arraycalc x s
      = _ := Op.bind_of_ok (popw_spec h h2)
    _ = _ := Op.bind_of_ok hlower
    _ = _ := Op.bind_of_ok (hread 2 (by decide) (by decide) (by decide))
    _ = _ := Op.bind_of_ok htest
    _ = _ := Op.bind_of_ok hsize
    _ = _ := rfl

theorem arraycalc_of_bad_size {s : State} {x : Int} (h : s.wf = true) (h2 : s.has 2 = true)
    (hb : (s.drop 2).okblock x 6 = true) (ht : s.tolerates (arrayRaises x s) = true)
    (hs : s.arraySize x < 0 ∨ 1 < s.arraySize x ∧ s.arraySize x % 2 = 1) :
    arraycalc x s = .error () ((s.drop 2).abort EODDZ) := by
  have hbad : elementSizeOk (s.arraySize x) = false := by
    rw [← Bool.not_eq_true]
    simp only [elementSizeOk, Bool.and_eq_true, Bool.or_eq_true, decide_eq_true_eq]
    omega
  rw [arraycalc_to_size_test h h2 hb ht, Op.bind_of_error (require_of_fatal (by decide) hbad _), State.raiseAll_abort]

/-- What a completed subscript calculation needs (R305), by name. -/
theorem arrayPre_iff (x : Int) (s : State) :
    arrayPre x s = true ↔ isX x = true ∧ s.has 4 = true ∧ (s.drop 4).okblock x 6 = true ∧
      s.tolerates (arrayRaises x s) = true ∧ elementSizeOk (s.arraySize x) = true := by
  simp only [arrayPre, elementSizeOk, Bool.and_eq_true, and_assoc]

/-- A block admitted with the lower SP is admitted with the higher one. -/
theorem State.okblock_drop_mono {s : State} {m n : Int} (h : s.wf = true) (h0 : 0 ≤ m) (hmn : m ≤ n)
    (hn : s.has n = true) {a k : Int} (hb : (s.drop n).okblock a k = true) : (s.drop m).okblock a k = true := by
  have hm := State.drop_spI h h0 (State.has_of_le hn hmn)
  have hn := State.drop_spI h (Int.le_trans h0 hmn) hn
  have hmax : ∀ j : Int, (s.drop j).maxdata = s.maxdata := fun _ => rfl
  have hhp : ∀ j : Int, (s.drop j).hpI = s.hpI := fun _ => rfl
  simp only [State.okblock, Bool.and_eq_true, Bool.or_eq_true, decide_eq_true_eq, hm, hn, hmax, hhp] at hb ⊢
  omega

/-- The subscript calculation where it completes (R305). -/
theorem arraycalc_spec {s : State} {x : Int} (h : s.wf = true) (hp : arrayPre x s = true) :
    arraycalc x s = .ok (arrayAddress x s) ((s.drop 4).raiseAll (arrayRaises x s)) := by
  obtain ⟨_, h4, hb, ht, hsize⟩ := (arrayPre_iff x s).1 hp
  have h2 := State.has_of_le h4 (show (2 : Int) ≤ 4 by decide)
  have htest : require (elementSizeOk (s.arraySize x)) EODDZ ((s.drop 2).raiseAll (arrayRaises x s))
      = .ok () ((s.drop 2).raiseAll (arrayRaises x s)) := by rw [require_spec, hsize]; rfl
  rw [arraycalc_to_size_test h h2 (State.okblock_drop_mono h (by decide) (by decide) h4 hb) ht]
  calc _ = _ := Op.bind_of_ok htest
    _ = _ := Op.bind_of_ok (popa_second h h4 _)
    _ = _ := rfl

/-! ## Elements of a refused size (R305, R306, R308) -/

theorem argx_accepts {x : Int} (hx : isX x = true) (s : State) : argx x s = .ok x s := by
  have hr : require (isX x) EILLINS s = .ok () s := by rw [require_spec, hx]; rfl
  exact Op.bind_of_ok hr

theorem pushx_of_size_zero (a : Int) (s : State) : pushx 0 a s = .error () (s.abort EODDZ) :=
  Op.bind_of_error (require_of_fatal (by decide) (by decide) s)

theorem popx_of_size_zero (a : Int) (s : State) : popx 0 a s = .error () (s.abort EODDZ) :=
  Op.bind_of_error (require_of_fatal (by decide) (by decide) s)

/-- LAR, LAS, SAR and SAS once the descriptor's address is known, with the move they make at the end (R306, R308). An
element of size 0 has an address, but no move takes it. -/
theorem move_of_size_zero {move : Int → Int → Op Unit} (hmove : ∀ a s, move 0 a s = .error () (s.abort EODDZ))
    {u : State} {x : Int} (h : u.wf = true) (hp : arrayPre x u = true) (hzero : u.arraySize x = 0) :
    (argx x >>= fun x => arraycalc x >>= fun a => memw (x + 4) >>= fun size => move size a) u
      = .error () ((u.drop 4).abort EODDZ) := by
  obtain ⟨hx, h4, hb, _⟩ := (arrayPre_iff x u).1 hp
  obtain ⟨hw, _⟩ := State.drop_wf h (by decide) (by decide) h4
  have hread : memw (x + 4) ((u.drop 4).raiseAll (arrayRaises x u)) = .ok 0 ((u.drop 4).raiseAll (arrayRaises x u)) := by
    rw [← hzero]
    exact memw_of_okword (State.okword_of_okblock hw hb (by decide) (by decide) (by decide))
  calc _ = _ := Op.bind_of_ok (argx_accepts hx u)
    _ = (memw (x + 4) >>= fun size => move size (arrayAddress x u)) ((u.drop 4).raiseAll (arrayRaises x u)) :=
        Op.bind_of_ok (arraycalc_spec h hp)
    _ = _ := Op.bind_of_ok hread
    _ = _ := hmove _ _

/-- `i` in `s` is an array instruction with the descriptor at `x`: immediate and `u = s`, or popped and `u` the state
behind the pop. Its statements are those of `m` in `u`. -/
theorem arrayInstr_statements {s u : State} {x : Int} {i : Instr} (h : s.wf = true)
    (hi : u = s ∧ (i = .aar x ∨ i = .lar x ∨ i = .sar x) ∨
      s.has 2 = true ∧ u = s.drop 2 ∧ x = s.topA 0 ∧ (i = .aas ∨ i = .las ∨ i = .sas)) :
    u.wf = true ∧ ∃ m : Int → Op Unit, (∀ t, m x u = .error () t → exec i s = .next t) ∧
      (m = loadElement ∨ m = storeElement ∨ m = elementAddress ∧ (i = .aar x ∨ i = .aas)) := by
  obtain ⟨rfl, hi⟩ | ⟨h2, rfl, rfl, hi⟩ := hi
  · refine ⟨h, ?_⟩
    rcases hi with rfl | rfl | rfl
    · exact ⟨elementAddress, fun _ hm => runOp_of_error hm, .inr (.inr ⟨rfl, .inl rfl⟩)⟩
    · exact ⟨loadElement, fun _ hm => runOp_of_error hm, .inl rfl⟩
    · exact ⟨storeElement, fun _ hm => runOp_of_error hm, .inr (.inl rfl)⟩
  · refine ⟨(State.drop_wf h (by decide) (by decide) h2).1, ?_⟩
    have hpop {m : Int → Op Unit} {t : State} (hm : m (s.topA 0) (s.drop 2) = .error () t) :
        runOp (popa >>= m) s = .next t := runOp_of_error ((Op.bind_of_ok (popa_spec h h2)).trans hm)
    rcases hi with rfl | rfl | rfl
    · exact ⟨elementAddress, fun _ hm => hpop hm, .inr (.inr ⟨rfl, .inr rfl⟩)⟩
    · exact ⟨loadElement, fun _ hm => hpop hm, .inl rfl⟩
    · exact ⟨storeElement, fun _ hm => hpop hm, .inr (.inl rfl)⟩

/-- Settles O13: an immediate operand is tested before anything else is done, a popped one behind the pop; a bad size
stops the subscript calculation, a size of 0 the move behind it. -/
theorem rejectedOperands : Obligations.RejectedOperands := by
  refine ⟨?_, ?_, ?_⟩
  · rintro s k i _ hi
    obtain ⟨hk, hi⟩ | ⟨hk, hi⟩ | ⟨hk, hi⟩ | ⟨hk, rfl⟩ | ⟨hk, hi⟩ := hi
    · rcases hi with rfl | rfl | rfl | rfl | rfl | rfl | rfl | rfl | rfl | rfl | rfl | rfl | rfl | rfl | rfl | rfl | rfl
        | rfl | rfl | rfl | rfl | rfl | rfl | rfl <;> exact exec_of_first_stops (argx_rejects hk s) rfl
    · rcases hi with rfl | rfl | rfl | rfl <;> exact exec_of_first_stops (argy_rejects hk s) rfl
    · rcases hi with rfl | rfl | rfl | rfl | rfl | rfl | rfl | rfl <;> exact exec_of_first_stops (argp_rejects hk s) rfl
    · exact exec_of_first_stops (argz_rejects hk s) rfl
    · rcases hi with rfl | rfl | rfl | rfl | rfl | rfl <;> exact exec_of_first_stops (argn_rejects hk s) rfl
  · rintro s i h h2 hi
    have ha := popa_spec h h2
    have hw := popw_spec h h2
    obtain ⟨hk, hi⟩ | ⟨hk, hi⟩ | ⟨hk, hi⟩ | ⟨hk, hi⟩ | ⟨hk, rfl⟩ | ⟨hk, hi⟩ := hi
    · rcases hi with rfl | rfl | rfl | rfl <;> exact exec_of_second_stops ha (argx_rejects hk _) rfl
    · rcases hi with rfl | rfl <;> exact exec_of_second_stops hw (argx_rejects hk _) rfl
    · rcases hi with rfl | rfl <;> exact exec_of_second_stops ha (argy_rejects hk _) rfl
    · rcases hi with rfl | rfl | rfl | rfl | rfl | rfl | rfl | rfl <;>
        exact exec_of_second_stops hw (argp_rejects hk _) rfl
    · exact exec_of_second_stops hw (argz_rejects hk _) rfl
    · rcases hi with rfl | rfl <;> exact exec_of_second_stops hw (argn_rejects hk _) rfl
  · rintro s u x i h hx hi
    obtain ⟨hu, m, hrun, hm⟩ := arrayInstr_statements h hi
    refine ⟨fun h2 hb ht hs => hrun _ ?_, fun hp hzero hnaar hnaas => hrun _ ?_⟩
    · have hstop := arraycalc_of_bad_size hu h2 hb ht hs
      rcases hm with rfl | rfl | ⟨rfl, _⟩ <;>
        exact (Op.bind_of_ok (argx_accepts hx u)).trans (Op.bind_of_error hstop)
    · rcases hm with rfl | rfl | ⟨_, rfl | rfl⟩
      · exact move_of_size_zero pushx_of_size_zero hu hp hzero
      · exact move_of_size_zero popx_of_size_zero hu hp hzero
      · exact absurd rfl hnaar
      · exact absurd rfl hnaas

end Sys2Proof.Machine
end

section
/-! Every instruction is a chain of updates of the state, each admitted by the test its primitive makes (R12, R14, R15);
a terminal status ends the chain (R413). What one update keeps, every instruction and every step keeps: the program, and
soundness. -/

namespace Sys2Proof.Machine

/-! ## Updates -/

/-- What only some statements write: HP, the registers of the error procedure, the context (R25, R28, R29), and the
errors to deliver (R34). -/
inductive Guarded where
  | heap
  | handler
  | context (normal : Bool)
  | queue

/-- One update of a running machine, under the test its primitive makes. `K` says which guarded parts it may write. -/
inductive Update (K : Guarded → Prop) (s : State) : State → Prop where
  | setPc (a : Int) (ha : s.okpc a = true) : Update K s (s.setPc a)
  | setSp (a : Int) (ha : s.oksp a = true) : Update K s (s.setSp a)
  | setLb (a : Int) (h0 : 0 ≤ a) (ha : s.oklb a = true) : Update K s (s.setLb a)
  | setHp (a : Int) (ha : s.okhp a = true) (hK : K .heap) : Update K s (s.setHp a)
  | setNormal (b : Bool) (hK : K (.context b)) : Update K s (s.setNormal b)
  | putWord (a v : Int) (ha : s.okword a = true) : Update K s (s.putWord a v)
  | putByte (a : Int) (b : Byte) (ha : s.okadr a = true) : Update K s (s.putByte a b)
  | storeAdmitted (a : Nat) (bs : List Byte) (h : Nat) :
      Update K s { s with data := s.storeAdmitted a bs s.data, host := h }
  | sigUpdate (g : Word) (act : Option SigAction) (h : Nat) :
      Update K s { s with sigmap := sigUpdate s.sigmap g act, host := h }
  | countFree : Update K s { s with freeCount := s.freeCount + 1 }
  | raise (n : Byte) (hK : K .queue) : Update K s (s.raise n)
  | restorePending (l : List Byte) (ls : List (List Byte)) (hK : K .queue) :
      Update K s { s with pending := l, saved := ls }
  | setErrorProc (link proc : Word) (hK : K .handler) :
      Update K s { s with uerrorlb := link, uerrorproc := proc }
  | beginTrap (l : List Byte) (hK : K .handler) : Update K s (s.beginTrap l)

theorem Update.mono {K L : Guarded → Prop} (hKL : ∀ g, K g → L g) {s t : State} (h : Update K s t) : Update L s t := by
  cases h with
  | setPc a ha => exact .setPc a ha
  | setSp a ha => exact .setSp a ha
  | setLb a h0 ha => exact .setLb a h0 ha
  | setHp a ha hK => exact .setHp a ha (hKL _ hK)
  | setNormal b hK => exact .setNormal b (hKL _ hK)
  | putWord a v ha => exact .putWord a v ha
  | putByte a b ha => exact .putByte a b ha
  | storeAdmitted a bs h => exact .storeAdmitted a bs h
  | sigUpdate g act h => exact .sigUpdate g act h
  | countFree => exact .countFree
  | raise n hK => exact .raise n (hKL _ hK)
  | restorePending l ls hK => exact .restorePending l ls (hKL _ hK)
  | setErrorProc link proc hK => exact .setErrorProc link proc (hKL _ hK)
  | beginTrap l hK => exact .beginTrap l (hKL _ hK)

/-- Updates one after the other. -/
abbrev Updates (K : Guarded → Prop) : State → State → Prop := Relation.ReflTransGen (Update K)

/-- Where updates end: the machine goes on, or it has taken a terminal status (R413). -/
inductive Ends (K : Guarded → Prop) (s : State) : State → Prop where
  | goesOn {t : State} (h : Updates K s t) : Ends K s t
  | stops {t : State} (h : Updates K s t) (st : Status) (hst : st ≠ .running) : Ends K s (t.stopped st)

section
variable {K : Guarded → Prop} {s t u : State}

theorem Updates.mono {L : Guarded → Prop} (hKL : ∀ g, K g → L g) (h : Updates K s t) : Updates L s t :=
  Relation.ReflTransGen.mono (fun _ _ => Update.mono hKL) _ _ h

theorem Ends.mono {L : Guarded → Prop} (hKL : ∀ g, K g → L g) (h : Ends K s t) : Ends L s t := by
  cases h with
  | goesOn h => exact .goesOn (h.mono hKL)
  | stops h st hst => exact .stops (h.mono hKL) st hst

/-- What every update keeps. -/
theorem Updates.invariant {P : State → Prop} (hstep : ∀ u v, Update K u v → P u → P v) (h : Updates K s t) (hs : P s) :
    P t := by
  induction h with
  | refl => exact hs
  | tail _ hlast ih => exact hstep _ _ hlast ih

/-- What every update and the stop keep. -/
theorem Ends.invariant {P : State → Prop} (hstep : ∀ u v, Update K u v → P u → P v)
    (hstop : ∀ u st, P u → P (u.stopped st)) (h : Ends K s t) (hs : P s) : P t := by
  cases h with
  | goesOn h => exact h.invariant hstep hs
  | stops h st _ => exact hstop _ st (h.invariant hstep hs)

/-! ## What an update leaves unchanged -/

/-- The instruction space, the base of the descriptor table, the header and the sizes are the same. -/
def sameProgram (s t : State) : Prop := t.code = s.code ∧ t.pd = s.pd ∧ t.header = s.header ∧ t.params = s.params

theorem sameProgram.trans (hst : sameProgram s t) (htu : sameProgram t u) : sameProgram s u := by
  obtain ⟨hcode, hpd, hheader, hparams⟩ := hst
  obtain ⟨hcode', hpd', hheader', hparams'⟩ := htu
  exact ⟨hcode'.trans hcode, hpd'.trans hpd, hheader'.trans hheader, hparams'.trans hparams⟩

theorem Update.sameProgram (h : Update K s t) : sameProgram s t := by
  cases h <;> exact ⟨rfl, rfl, rfl, rfl⟩

theorem Update.status_eq (h : Update K s t) : t.status = s.status := by cases h <;> rfl

theorem Update.hp_eq (h : Update K s t) (hK : ¬ K .heap) : t.hp = s.hp := by
  cases h with
  | setHp _ _ hheap => exact absurd hheap hK
  | _ => rfl

theorem Update.errorProc_eq (h : Update K s t) (hK : ¬ K .handler) :
    t.uerrorlb = s.uerrorlb ∧ t.uerrorproc = s.uerrorproc := by
  cases h with
  | setErrorProc _ _ hhandler => exact absurd hhandler hK
  | beginTrap _ hhandler => exact absurd hhandler hK
  | _ => exact ⟨rfl, rfl⟩

/-- A context that no update may leave stays. -/
theorem Update.normalmap_eq {b : Bool} (h : Update K s t) (hK : ¬ K (.context !b)) (hs : s.normalmap = b) :
    t.normalmap = b := by
  cases h with
  | setNormal c hc =>
    by_contra hne
    exact hK (Bool.eq_not.2 hne ▸ hc)
  | _ => exact hs

theorem Update.pending_eq (h : Update K s t) (hqueue : ¬ K .queue) (hhandler : ¬ K .handler) :
    t.pending = s.pending := by
  cases h with
  | raise _ hK => exact absurd hK hqueue
  | restorePending _ _ hK => exact absurd hK hqueue
  | beginTrap _ hK => exact absurd hK hhandler
  | _ => rfl

theorem Ends.sameProgram (h : Ends K s t) : sameProgram s t :=
  h.invariant (P := Machine.sameProgram s) (fun _ _ hu hs => hs.trans hu.sameProgram) (fun _ _ hs => hs)
    ⟨rfl, rfl, rfl, rfl⟩

theorem Ends.hp_eq (h : Ends K s t) (hK : ¬ K .heap) : t.hp = s.hp :=
  h.invariant (P := fun u => u.hp = s.hp) (fun _ _ hu hs => (hu.hp_eq hK).trans hs) (fun _ _ hs => hs) rfl

theorem Ends.errorProc_eq (h : Ends K s t) (hK : ¬ K .handler) :
    t.uerrorlb = s.uerrorlb ∧ t.uerrorproc = s.uerrorproc :=
  h.invariant (P := fun u => u.uerrorlb = s.uerrorlb ∧ u.uerrorproc = s.uerrorproc)
    (fun _ _ hu hs => ⟨(hu.errorProc_eq hK).1.trans hs.1, (hu.errorProc_eq hK).2.trans hs.2⟩) (fun _ _ hs => hs)
    ⟨rfl, rfl⟩

theorem Ends.normalmap_eq {b : Bool} (h : Ends K s t) (hK : ¬ K (.context !b)) (hs : s.normalmap = b) :
    t.normalmap = b :=
  h.invariant (P := fun u => u.normalmap = b) (fun _ _ hu hs => hu.normalmap_eq hK hs) (fun _ _ hs => hs) hs

/-- Where no error can be queued, none is left. -/
theorem Ends.pending_nil (h : Ends K s t) (hqueue : ¬ K .queue) (hhandler : ¬ K .handler) (hs : s.pending = []) :
    t.pending = [] :=
  h.invariant (P := fun u => u.pending = []) (fun _ _ hu hs => (hu.pending_eq hqueue hhandler).trans hs)
    (fun _ _ _ => rfl) hs

/-- A running machine still runs, or has stopped and discarded its errors (R413). -/
theorem Ends.running_or_discarded (h : Ends K s t) (hs : s.status = .running) :
    t.status = .running ∨ t.status ≠ .running ∧ t.pending = [] := by
  cases h with
  | goesOn h =>
    exact .inl (h.invariant (P := fun u => u.status = .running) (fun _ _ hu hs => hu.status_eq.trans hs) hs)
  | stops _ st hst => exact .inr ⟨hst, rfl⟩

end

end Sys2Proof.Machine
end

section
/-! The shared statements of the rules, each a chain of updates (R11 to R17), and the instructions built of them. -/

namespace Sys2Proof.Machine

/-! ## Sequences of statements -/

/-- The updates behind an outcome of statements started in `s`. -/
def Reaches (K : Guarded → Prop) (s : State) {α : Type} : EStateM.Result Unit State α → Prop
  | .ok _ t => Updates K s t
  | .error _ t => ∃ u st, Updates K s u ∧ st ≠ .running ∧ t = u.stopped st

/-- Statements that make only updates `K` allows, from whatever state. -/
def Within (K : Guarded → Prop) {α : Type} (m : Op α) : Prop := ∀ s, Reaches K s (m s)

/-- An outcome of an instruction or a step: its next state ends a chain of updates. -/
def EndsIn (K : Guarded → Prop) (s : State) (r : Result) : Prop := ∀ t, r = .next t → Ends K s t

section
variable {K : Guarded → Prop} {α β : Type}

theorem Reaches.after {s t : State} {r : EStateM.Result Unit State α} (hst : Updates K s t) (hr : Reaches K t r) :
    Reaches K s r := by
  cases r with
  | ok _ u => exact hst.trans hr
  | error _ u =>
    obtain ⟨v, st, hv, hrun, rfl⟩ := hr
    exact ⟨v, st, hst.trans hv, hrun, rfl⟩

/-- Where the rest of a sequence needs to know how a value came about. -/
theorem within_bind {m : Op α} {f : α → Op β} (hm : Within K m) (hf : ∀ a s t, m s = .ok a t → Within K (f a)) :
    Within K (m >>= f) := by
  intro s
  have hs := hm s
  cases hr : m s with
  | ok a t =>
    rw [hr] at hs
    rw [Op.bind_of_ok hr]
    exact Reaches.after hs (hf a s t hr t)
  | error _ t =>
    rw [hr] at hs
    rw [Op.bind_of_error hr]
    exact hs

/-- A sequence that goes on has gone through its parts. -/
theorem Op.ok_of_bind_ok {m : Op α} {f : α → Op β} {s t : State} {b : β} (h : (m >>= f) s = .ok b t) :
    ∃ a u, m s = .ok a u ∧ f a u = .ok b t := by
  cases hm : m s with
  | ok a u => exact ⟨a, u, rfl, (Op.bind_of_ok hm).symm.trans h⟩
  | error _ u => cases (Op.bind_of_error hm).symm.trans h

theorem within_seq {m : Op α} {f : α → Op β} (hm : Within K m) (hf : ∀ a, Within K (f a)) : Within K (m >>= f) :=
  within_bind hm fun a _ _ _ => hf a

theorem within_ite {c : Prop} [Decidable c] {m m' : Op α} (hm : Within K m) (hm' : Within K m') :
    Within K (if c then m else m') := by
  split
  · exact hm
  · exact hm'

theorem within_pure (a : α) : Within K (pure a : Op α) := fun _ => .refl

theorem within_get : Within K (get : Op State) := fun _ => .refl

theorem runOp_endsIn {m : Op Unit} (hm : Within K m) (s : State) : EndsIn K s (runOp m s) := by
  intro t ht
  have hs := hm s
  cases hr : m s with
  | ok _ u =>
    rw [hr] at hs
    rw [runOp_of_ok hr] at ht
    cases ht
    exact .goesOn hs
  | error _ u =>
    rw [hr] at hs
    obtain ⟨v, st, hv, hst, rfl⟩ := hs
    rw [runOp_of_error hr] at ht
    cases ht
    exact .stops hv st hst

/-! ## Traps (R412, R413) -/

theorem stop_within {st : Status} (hst : st ≠ .running) : Within K (stop st : Op α) :=
  fun s => ⟨s, st, .refl, hst, rfl⟩

theorem abort_reaches (s : State) (n : Byte) : Reaches K (α := α) s (.error () (s.stopped (.aborted n))) :=
  ⟨s, _, .refl, by simp, rfl⟩

theorem trap_within (hq : K .queue) (n : Byte) : Within K (trap n) := by
  intro s
  rw [trap_spec]
  split
  · exact abort_reaches s n
  · exact .single (.raise n hq)

theorem trap_within_of_fatal {n : Byte} (hn : isFatal n = true) : Within K (trap n) := by
  intro s
  rw [trap_of_fatal hn]
  exact abort_reaches s n

theorem require_within (hq : K .queue) (c : Bool) (n : Byte) : Within K (require c n) := by
  intro s
  rw [require_spec]
  split
  · exact .refl
  · exact trap_within hq n s

theorem require_within_of_fatal {n : Byte} (hn : isFatal n = true) (c : Bool) : Within K (require c n) := by
  intro s
  rw [require_spec]
  split
  · exact .refl
  · exact trap_within_of_fatal hn s

/-! ## Registers and memory (R12 to R14) -/

/-- A test, then one update; or the machine stops. -/
theorem reaches_tested {s t : State} {c : Bool} {n : Byte} {a : α} (h : c = true → Updates K s t) :
    Reaches K s (if c then .ok a t else .error () (s.stopped (.aborted n))) := by
  split
  · next hc => exact h hc
  · exact abort_reaches s n

theorem newpc_within (a : Int) : Within K (newpc a) := fun _ => reaches_tested fun h => .single (.setPc a h)
theorem newsp_within (a : Int) : Within K (newsp a) := fun _ => reaches_tested fun h => .single (.setSp a h)
theorem newlb_within {a : Int} (h0 : 0 ≤ a) : Within K (newlb a) :=
  fun _ => reaches_tested fun h => .single (.setLb a h0 h)
theorem newhp_within (hK : K .heap) (a : Int) : Within K (newhp a) :=
  fun _ => reaches_tested fun h => .single (.setHp a h hK)
theorem setNormalmap_within {b : Bool} (hK : K (.context b)) : Within K (setNormalmap b) :=
  fun _ => .single (.setNormal b hK)
theorem memb_within (a : Int) : Within K (memb a) := fun _ => reaches_tested fun _ => .refl
theorem mema_within (a : Int) : Within K (mema a) := fun _ => reaches_tested fun _ => .refl
theorem memw_within (a : Int) : Within K (memw a) := fun _ => reaches_tested fun _ => .refl
theorem memi_within (a : Int) : Within K (memi a) := fun _ => reaches_tested fun _ => .refl
theorem storeb_within (a : Int) (b : Byte) : Within K (storeb a b) :=
  fun _ => reaches_tested fun h => .single (.putByte a b h)
theorem store_within (a v : Int) : Within K (store a v) := fun _ => reaches_tested fun h => .single (.putWord a v h)

/-- An unsigned word read is no negative number. -/
theorem mema_nonneg {a v : Int} {s t : State} (h : mema a s = .ok v t) : 0 ≤ v := by
  rw [mema_spec] at h
  split at h
  · cases h
    exact adr_nonneg _
  · cases h

/-- A store that goes on was made at an address of the data space. -/
theorem store_nonneg {a v : Int} {u : Unit} {s t : State} (h : store a v s = .ok u t) : 0 ≤ a := by
  rw [store_spec] at h
  split at h
  · next hok => exact ((State.okword_iff s a).1 hok).2.1
  · cases h

/-! ## The stack (R15) -/

theorem push_within (v : Int) : Within K (push v) :=
  within_seq within_get fun _ => within_seq (newsp_within _) fun _ => store_within _ v

theorem popw_within : Within K popw :=
  within_seq within_get fun _ => within_seq (memw_within _) fun r => within_seq (newsp_within _) fun _ => within_pure r

theorem popa_within : Within K popa :=
  within_seq within_get fun _ => within_seq (mema_within _) fun r => within_seq (newsp_within _) fun _ => within_pure r

theorem popa_nonneg {v : Int} {s t : State} (h : popa s = .ok v t) : 0 ≤ v := by
  rw [popa_eq] at h
  obtain ⟨r, u, hr, h⟩ := Op.ok_of_bind_ok h
  obtain ⟨_, w, _, h⟩ := Op.ok_of_bind_ok h
  cases h
  exact mema_nonneg hr

theorem pushWords_within (n : Nat) : ∀ a : Int, Within K (pushWords n a) := by
  induction n with
  | zero => exact fun _ => within_pure ()
  | succ n ih => exact fun a => within_seq (memw_within a) fun w => within_seq (push_within w) fun _ => ih _

theorem popWords_within (n : Nat) : ∀ a : Int, Within K (popWords n a) := by
  induction n with
  | zero => exact fun _ => within_pure ()
  | succ n ih => exact fun a => within_seq popw_within fun w => within_seq (store_within _ w) fun _ => ih a

theorem pushTimes_within (v : Int) (n : Nat) : Within K (pushTimes v n) := by
  induction n with
  | zero => exact within_pure ()
  | succ n ih => exact within_seq (push_within v) fun _ => ih

theorem pushx_within (size a : Int) : Within K (pushx size a) :=
  within_ite (within_seq (memb_within a) fun b => push_within b)
    (within_seq (require_within_of_fatal (by decide) _) fun _ => pushWords_within _ a)

theorem popx_within (size a : Int) : Within K (popx size a) :=
  within_ite
    (within_seq within_get fun _ => within_seq (memb_within _) fun _ => within_seq (storeb_within a _) fun _ =>
      newsp_within _)
    (within_seq (require_within_of_fatal (by decide) _) fun _ => popWords_within _ a)

/-! ## Operands (R16, R235) -/

theorem argn_within (w : Int) : Within K (argn w) :=
  within_seq (require_within_of_fatal (by decide) _) fun _ => within_pure w
theorem argx_within (w : Int) : Within K (argx w) :=
  within_seq (require_within_of_fatal (by decide) _) fun _ => within_pure w
theorem argp_within (w : Int) : Within K (argp w) :=
  within_seq (require_within_of_fatal (by decide) _) fun _ => within_pure w
theorem argy_within (w : Int) : Within K (argy w) :=
  within_seq (require_within_of_fatal (by decide) _) fun _ => within_pure w
theorem argz_within (w : Int) : Within K (argz w) :=
  within_seq (require_within_of_fatal (by decide) _) fun _ => within_pure w
theorem argi_within (hq : K .queue) (w : Int) : Within K (argi w) :=
  within_seq (require_within hq _ _) fun _ => within_pure w
theorem chkovf_within (hq : K .queue) (z : Int) : Within K (chkovf z) :=
  within_seq (require_within hq _ _) fun _ => within_pure z

theorem popIntegers_within (hq : K .queue) : Within K popIntegers :=
  within_seq popw_within fun w => within_seq (argi_within hq w) fun _ =>
    within_seq popw_within fun w => within_seq (argi_within hq w) fun _ => within_pure _

theorem popWordPair_within : Within K popWordPair :=
  within_seq popw_within fun _ => within_seq popw_within fun _ => within_pure _

theorem popPointers_within : Within K popPointers :=
  within_seq popa_within fun _ => within_seq popa_within fun _ => within_pure _

theorem freshWord_within : Within K freshWord := fun _ => .single .countFree

/-! ## Doubles and reals (R244 to R249) -/

theorem dblOperand_within (hq : K .queue) (w0 w1 : Word) : Within K (dblOperand w0 w1) := by
  unfold dblOperand
  split
  · exact within_pure _
  · exact within_seq (trap_within hq _) fun _ => within_pure _

theorem fltOperand_within (hq : K .queue) (w0 w1 : Word) : Within K (fltOperand w0 w1) := by
  unfold fltOperand
  split
  · exact within_pure _
  · exact within_seq (trap_within hq _) fun _ => within_pure _

theorem popd_within (hq : K .queue) : Within K popd :=
  within_seq popw_within fun _ => within_seq popw_within fun _ => dblOperand_within hq _ _

theorem popr_within (hq : K .queue) : Within K popr :=
  within_seq popw_within fun _ => within_seq popw_within fun _ => fltOperand_within hq _ _

theorem popDoubles_within (hq : K .queue) : Within K popDoubles :=
  within_seq (popd_within hq) fun _ => within_seq (popd_within hq) fun _ => within_pure _

theorem popReals_within (hq : K .queue) : Within K popReals :=
  within_seq (popr_within hq) fun _ => within_seq (popr_within hq) fun _ => within_pure _

theorem pushd_within (d : Int) : Within K (pushd d) := within_seq (push_within _) fun _ => push_within _

theorem pushr_within (r : Rat) : Within K (pushr r) := within_seq (push_within _) fun _ => push_within _

theorem pushDoubleResult_within (hq : K .queue) (op : DoubleOp) (ds dt exact : Int) :
    Within K (pushDoubleResult op ds dt exact) :=
  within_seq (require_within hq _ _) fun _ => pushd_within _

theorem pushDoubleQuotient_within (hq : K .queue) (dt exact : Int) : Within K (pushDoubleQuotient dt exact) :=
  within_ite (trap_within hq _) (pushd_within exact)

theorem raiseReports_within (hq : K .queue) (cs : List FloatTrap) : Within K (raiseReports cs) := by
  induction cs with
  | nil => exact within_pure ()
  | cons c cs ih => exact within_seq (trap_within hq _) fun _ => ih

theorem floatResult_within (hq : K .queue) (op : FloatOp) (rs rt exact : Rat) : Within K (floatResult op rs rt exact) :=
  within_seq (raiseReports_within hq _) fun _ => within_pure _

/-! ## Loops and shared parts of instructions -/

theorem sleftTimes_within (hq : K .queue) (n : Nat) : ∀ w : Int, Within K (sleftTimes n w) := by
  induction n with
  | zero => exact fun w => within_pure w
  | succ n ih => exact fun w => within_ite (within_seq (trap_within hq _) fun _ => ih w) (ih _)

theorem followLinks_within (n : Nat) : ∀ a : Int, Within K (followLinks n a) := by
  induction n with
  | zero => exact fun a => within_pure a
  | succ n ih => exact fun a => within_seq (mema_within _) ih

theorem moveWords_within (n : Nat) : ∀ t s : Int, Within K (moveWords n t s) := by
  induction n with
  | zero => exact fun _ _ => within_pure ()
  | succ n ih => exact fun t s => within_seq (memw_within s) fun w => within_seq (store_within t w) fun _ => ih _ _

theorem logicalWords_within (op : Word → Word → Word) (k : Int) (n : Nat) : Within K (logicalWords op k n) := by
  induction n with
  | zero => exact within_pure ()
  | succ n ih =>
    exact within_seq popw_within fun _ => within_seq within_get fun _ => within_seq (memw_within _) fun _ =>
      within_seq (store_within _ _) fun _ => ih

theorem complementWords_within (n : Nat) : ∀ a : Int, Within K (complementWords n a) := by
  induction n with
  | zero => exact fun _ => within_pure ()
  | succ n ih => exact fun a => within_seq (memw_within a) fun _ => within_seq (store_within a _) fun _ => ih _

theorem blockcmpWords_within (k : Int) (n : Nat) : ∀ j : Int, Within K (blockcmpWords k n j) := by
  induction n with
  | zero => exact fun _ => within_pure _
  | succ n ih =>
    exact fun j => within_seq within_get fun _ => within_seq (mema_within _) fun _ =>
      within_seq (mema_within _) fun _ => within_ite (within_pure _) (within_ite (within_pure _) (ih _))

theorem searchCase_within (t : Int) (n : Nat) : ∀ a : Int, Within K (searchCase t n a) := by
  induction n with
  | zero => exact fun _ => within_pure _
  | succ n ih => exact fun a => within_seq (memw_within a) fun _ => within_ite (within_pure _) (ih _)

theorem duplicateWords_within (k : Int) (n : Nat) : Within K (duplicateWords k n) := by
  induction n with
  | zero => exact within_pure ()
  | succ n ih =>
    exact within_seq within_get fun _ => within_seq (memw_within _) fun w => within_seq (push_within w) fun _ => ih

theorem popParams_within (n : Nat) : Within K (popParams n) := by
  induction n with
  | zero => exact within_pure _
  | succ n ih => exact within_seq popw_within fun _ => within_seq ih fun _ => within_pure _

theorem arraycalc_within (hq : K .queue) (c : Int) : Within K (arraycalc c) :=
  within_seq popw_within fun _ => within_seq (memw_within c) fun _ => within_seq (memw_within _) fun _ =>
    within_seq (require_within hq _ _) fun _ => within_seq (memw_within _) fun _ =>
      within_seq (require_within_of_fatal (by decide) _) fun _ => within_seq popa_within fun _ => within_pure _

theorem loadElement_within (hq : K .queue) (k : Int) : Within K (loadElement k) :=
  within_seq (argx_within k) fun x => within_seq (arraycalc_within hq x) fun a => within_seq (memw_within _) fun _ =>
    pushx_within _ a

theorem storeElement_within (hq : K .queue) (k : Int) : Within K (storeElement k) :=
  within_seq (argx_within k) fun x => within_seq (arraycalc_within hq x) fun a => within_seq (memw_within _) fun _ =>
    popx_within _ a

theorem elementAddress_within (hq : K .queue) (k : Int) : Within K (elementAddress k) :=
  within_seq (argx_within k) fun x => within_seq (arraycalc_within hq x) push_within

theorem blockcmp_within (k : Int) : Within K (blockcmp k) :=
  within_seq (argp_within k) fun k => within_seq (blockcmpWords_within k _ 0) fun t => within_seq within_get fun _ =>
    within_seq (newsp_within _) fun _ => push_within t

theorem logical_within (op : Word → Word → Word) (k : Int) : Within K (logical op k) :=
  within_seq (argp_within k) fun k => logicalWords_within op k _

theorem complement_within (k : Int) : Within K (complement k) :=
  within_seq (argp_within k) fun _ => within_seq within_get fun _ => complementWords_within _ _

theorem testBit_within (hq : K .queue) (k : Int) : Within K (testBit k) :=
  within_seq (argp_within k) fun _ => within_seq popw_within fun _ => within_seq within_get fun _ =>
    within_ite (within_seq (trap_within hq _) fun _ => within_seq (newsp_within _) fun _ => push_within 0)
      (within_seq (memw_within _) fun _ => within_seq (newsp_within _) fun _ => push_within _)

theorem singleton_within (hq : K .queue) (k : Int) : Within K (singleton k) :=
  within_seq (argp_within k) fun _ => within_seq popw_within fun _ =>
    within_ite (within_seq (trap_within hq _) fun _ => pushTimes_within 0 _)
      (within_seq (pushTimes_within 0 _) fun _ => within_seq (push_within _) fun _ => pushTimes_within 0 _)

theorem reserve_within (k : Int) : Within K (reserve k) :=
  within_seq (argz_within k) fun _ => within_seq within_get fun _ =>
    within_ite (pushTimes_within _ _) (newsp_within _)

theorem blockMove_within (k : Int) : Within K (blockMove k) :=
  within_seq (argx_within k) fun _ => within_seq popa_within fun t => within_seq popa_within fun s =>
    moveWords_within _ t s

theorem duplicate_within (k : Int) : Within K (duplicate k) :=
  within_seq (argp_within k) fun k => duplicateWords_within k _

theorem rangeCheck_within (hq : K .queue) (k : Int) : Within K (rangeCheck k) :=
  within_seq (argx_within k) fun _ => within_seq within_get fun _ => within_seq (memw_within _) fun _ =>
    within_seq (memw_within _) fun _ => within_seq (memw_within _) fun _ => require_within hq _ _

theorem lino_within (hq : K .queue) (w : Int) : Within K (lino w) :=
  within_seq within_get fun _ => within_seq (require_within hq _ _) fun _ => store_within 0 w

theorem branchIf_within (c : Bool) (k : Int) : Within K (branchIf c k) :=
  within_ite (within_seq (argn_within k) fun _ => within_seq within_get fun _ => newpc_within _) (within_pure ())

/-! ## Procedures (R73, R351 to R357, R370) -/

theorem requireProc_within (n : Int) : Within K (requireProc n) :=
  fun s => require_within_of_fatal (n := EPROC) (by decide) _ s

theorem procBase_within (n : Int) : Within K (procBase n) := within_seq within_get fun _ => memi_within _

theorem caseBase_within (c : Int) : Within K (caseBase c) :=
  within_seq (memw_within c) fun p => within_seq (requireProc_within p) fun _ => procBase_within p

theorem caseJump_within (base offset : Int) : Within K (caseJump base offset) :=
  within_ite (trap_within_of_fatal (by decide)) (newpc_within _)

theorem mark_within {b : Bool} (hK : K (.context b)) (k : Int) : Within K (mark b k) :=
  within_seq (argn_within k) fun _ => within_seq within_get fun _ => within_seq (followLinks_within _ _) fun a =>
    within_seq (push_within a) fun _ => within_seq (push_within _) fun _ => within_seq (push_within 0) fun _ =>
      setNormalmap_within hK

/-- The return address was stored below the new LB, which therefore is no negative number. -/
theorem call_within (hK : K (.context true)) (k : Int) : Within K (call k) :=
  within_seq (requireProc_within k) fun _ => within_seq within_get fun s => within_seq (memi_within _) fun t =>
    within_bind (store_within _ _) fun _ _ _ hstore => within_seq (procBase_within k) fun base =>
      within_seq (newpc_within base) fun _ =>
        have h0 : 0 ≤ s.spI + 2 - t := by
          have := store_nonneg hstore
          unfold Config.reta at this
          omega
        within_seq (newlb_within h0) fun _ => setNormalmap_within hK

theorem leave_within (k : Int) : Within K (leave k) :=
  within_seq (argx_within k) fun _ => within_seq within_get fun _ => within_seq (mema_within _) fun ret =>
    within_seq (newpc_within ret) fun _ => within_bind (mema_within _) fun _ _ _ hlink =>
      within_seq (newlb_within (mema_nonneg hlink)) fun _ => within_seq (moveWords_within _ _ _) fun _ => newsp_within _

/-! ## Trap entry and return (R414 to R418) -/

theorem restorePending_within (hq : K .queue) : Within K restorePending := by
  intro s
  rw [restorePending_spec]
  exact .single (.restorePending _ _ hq)

theorem returnFromTrap_within (hq : K .queue) (hK : ∀ b, K (.context b)) : Within K returnFromTrap :=
  within_seq within_get fun _ => within_seq (mema_within _) fun ret => within_seq (newpc_within ret) fun _ =>
    within_bind (mema_within _) fun _ _ _ hlink => within_seq (newlb_within (mema_nonneg hlink)) fun _ =>
      within_seq (newsp_within _) fun _ => within_seq popw_within fun _ =>
        within_seq (setNormalmap_within (hK _)) fun _ => restorePending_within hq

theorem State.spI_ge (s : State) : -2 ≤ s.spI := by
  have := adr_nonneg (s.sp + 2#16)
  unfold State.spI
  omega

/-- Trap entry but for its first assignment. -/
def enterFrame (n : Byte) (s : State) : Op Unit := do
  push (ofBool s.normalmap)
  push (adr s.uerrorlb)
  push s.lbI
  push s.pcI
  push n.toNat
  newlb (s.spI + 10)
  require (decide (adr s.uerrorproc < s.nproc)) EPROC
  let base ← procBase (adr s.uerrorproc)
  newpc base
  setNormalmap true

theorem enter_eq (n : Byte) (rest : List Byte) (s : State) : enter n rest s = enterFrame n s (s.beginTrap rest) := rfl

theorem enterFrame_within (hK : K (.context true)) (n : Byte) (s : State) : Within K (enterFrame n s) :=
  within_seq (push_within _) fun _ => within_seq (push_within _) fun _ => within_seq (push_within _) fun _ =>
    within_seq (push_within _) fun _ => within_seq (push_within _) fun _ =>
      have h0 : 0 ≤ s.spI + 10 := by
        have := s.spI_ge
        omega
      within_seq (newlb_within h0) fun _ => within_seq (require_within_of_fatal (by decide) _) fun _ =>
        within_seq (procBase_within _) fun base => within_seq (newpc_within base) fun _ => setNormalmap_within hK

theorem enter_within (hh : K .handler) (hK : K (.context true)) (n : Byte) (rest : List Byte) :
    Within K (enter n rest) := by
  intro s
  rw [enter_eq]
  exact Reaches.after (.single (.beginTrap rest hh)) (enterFrame_within hK n s _)

theorem deliver_within (hh : K .handler) (hK : K (.context true)) : Within K deliver := by
  intro s
  rw [deliver_spec]
  split
  · split
    · exact .refl
    · split
      · exact abort_reaches s _
      · exact enter_within hh hK _ _ s
  · exact .refl

theorem setErrorProc_within (hh : K .handler) (link proc : Word) : Within K (setErrorProc link proc) :=
  fun _ => .single (.setErrorProc link proc hh)

/-! ## Monitor calls and signals (R400 to R409, R421) -/

theorem hostCall_within (c : MonCall) (ps : List Word) : Within K (hostCall c ps) :=
  fun _ => .single (.storeAdmitted _ _ _)

theorem sigtrp_within (trapno signo : Word) : Within K (sigtrp trapno signo) := by
  intro s
  unfold sigtrp
  split
  · exact .single (.sigUpdate _ _ _)
  · exact .single (.storeAdmitted 0 [] _)

theorem pushIf_within (b : Bool) (w : Word) : Within K (pushIf b w) := within_ite (push_within _) (within_pure ())

theorem monitorCall_within (c : MonCall) : Within K (monitorCall c) :=
  within_seq (popParams_within _) fun ps =>
    have hresults : ∀ r : Word × Word × Word,
        Within K (do pushIf c.hasR0 r.1; pushIf c.hasR1 r.2.1; pushIf c.hasE r.2.2) :=
      fun _ => within_seq (pushIf_within _ _) fun _ => within_seq (pushIf_within _ _) fun _ => pushIf_within _ _
    within_ite (within_seq (sigtrp_within _ _) hresults) (within_seq (hostCall_within c ps) hresults)

theorem takeSignal_within (hq : K .queue) (hh : K .handler) (hK : K (.context true)) (g : Word) :
    Within K (takeSignal g) := by
  intro s
  unfold takeSignal
  split
  · exact within_seq (trap_within hq _) (fun _ => deliver_within hh hK) s
  · exact .refl
  · split
    · exact abort_reaches s _
    · exact .refl

end

end Sys2Proof.Machine
end

section
/-! What every instruction may write, a step, and the statements about the whole machine. -/

namespace Sys2Proof.Machine

/-! ## Every instruction (R201 to R399) -/

/-- The guarded parts an instruction may write, but for what the escape byte on its own runs (R103). -/
def mayWrite (i : Instr) : Guarded → Prop
  | .heap => i = .str 2
  | .handler => i = .sig
  | .context true => (∃ k, i = .mrk k) ∨ i = .mrs ∨ (∃ k, i = .cal k) ∨ i = .cas ∨ i = .rtt
  | .context false => (∃ k, i = .mrx k) ∨ i = .mxs ∨ i = .rtt
  | .queue => True

section
variable {K : Guarded → Prop}

theorem execLor_endsIn (k : Int) (s : State) : EndsIn K s (execLor k s) := by
  refine runOp_endsIn (within_seq within_get fun u => ?_) s
  split
  · exact push_within _
  · exact push_within _
  · exact push_within _
  · exact trap_within_of_fatal (by decide)

theorem execStr_endsIn {k : Int} (hK : k = 2 → K .heap) (s : State) : EndsIn K s (execStr k s) := by
  refine runOp_endsIn ?_ s
  split
  · exact within_bind popa_within fun v _ _ hv => newlb_within (popa_nonneg hv)
  · exact within_seq popa_within newsp_within
  · exact within_seq popa_within (newhp_within (hK rfl))
  · exact trap_within_of_fatal (by decide)

/-- An index outside the range counts as an entry of -1, for which the default is tried. -/
theorem execCsa_endsIn (s : State) : EndsIn K s (execCsa s) := by
  refine runOp_endsIn (within_seq popa_within fun c => within_seq (caseBase_within c) fun b => within_seq popw_within
    fun _ => within_seq (memw_within _) fun _ => within_seq (memw_within _) fun _ => ?_) s
  have hjump : ∀ o : Int, Within K (if o = -1 then memw (c + 2) >>= caseJump b else pure o >>= caseJump b) :=
    fun o => within_ite (within_seq (memw_within _) (caseJump_within b))
      (within_seq (within_pure o) (caseJump_within b))
  exact within_ite (within_seq (memw_within _) hjump) (within_seq (within_pure (-1)) hjump)

theorem execCsb_endsIn (s : State) : EndsIn K s (execCsb s) := by
  refine runOp_endsIn (within_seq popa_within fun c => within_seq (caseBase_within c) fun b => within_seq popw_within
    fun t => within_seq (memw_within _) fun n => within_seq (searchCase_within t _ _) fun found => ?_) s
  cases found with
  | none => exact within_seq (memw_within _) (caseJump_within b)
  | some a => exact within_seq (memw_within _) (caseJump_within b)

theorem execMon_endsIn (hq : K .queue) (s : State) : EndsIn K s (execMon s) := by
  refine runOp_endsIn (within_seq popw_within fun code => ?_) s
  split
  · exact trap_within hq _
  · exact monitorCall_within _

end

/-- Every instruction but the escape byte is a sequence of the shared statements. -/
theorem exec_endsIn {i : Instr} (hi : i ≠ .escape) (s : State) : EndsIn (mayWrite i) s (exec i s) := by
  have hq : mayWrite i .queue := trivial
  cases i with
  | escape => exact absurd rfl hi
  -- group 1, load
  | loc k | lnc k => exact runOp_endsIn (push_within _) s
  | lol k =>
    exact runOp_endsIn (within_seq (argx_within k) fun _ => within_seq within_get fun _ =>
      within_seq (memw_within _) push_within) s
  | loe k => exact runOp_endsIn (within_seq (argx_within k) fun x => within_seq (memw_within x) push_within) s
  | lop k =>
    exact runOp_endsIn (within_seq (argx_within k) fun _ => within_seq within_get fun _ =>
      within_seq (mema_within _) fun p => within_seq (memw_within p) push_within) s
  | lai k =>
    exact runOp_endsIn (within_seq (argy_within k) fun y => within_seq popa_within fun a =>
      within_seq (mema_within a) fun b => within_seq (store_within a _) fun _ => pushx_within y b) s
  | lof k => exact runOp_endsIn (within_seq popa_within fun _ => within_seq (memw_within _) push_within) s
  | lal k =>
    exact runOp_endsIn (within_seq (argx_within k) fun _ => within_seq within_get fun _ => push_within _) s
  | lae k => exact runOp_endsIn (within_seq (argx_within k) push_within) s
  | lex k =>
    exact runOp_endsIn (within_seq (argn_within k) fun _ => within_seq within_get fun _ =>
      within_seq (followLinks_within _ _) push_within) s
  | loi k => exact runOp_endsIn (within_seq (argy_within k) fun y => within_seq popa_within fun p => pushx_within y p) s
  | los =>
    exact runOp_endsIn (within_seq popa_within fun n => within_seq (argy_within n) fun y =>
      within_seq popa_within fun p => pushx_within y p) s
  | ldl k =>
    exact runOp_endsIn (within_seq (argx_within k) fun _ => within_seq within_get fun _ => pushWords_within 2 _) s
  | lde k => exact runOp_endsIn (within_seq (argx_within k) (pushWords_within 2)) s
  | ldf k => exact runOp_endsIn (within_seq popa_within fun _ => pushWords_within 2 _) s
  -- group 2, store
  | stl k =>
    exact runOp_endsIn (within_seq (argx_within k) fun _ => within_seq within_get fun _ =>
      within_seq popw_within fun w => store_within _ w) s
  | ste k => exact runOp_endsIn (within_seq (argx_within k) fun x => within_seq popw_within (store_within x)) s
  | stp k =>
    exact runOp_endsIn (within_seq (argx_within k) fun _ => within_seq within_get fun _ =>
      within_seq (mema_within _) fun p => within_seq popw_within (store_within p)) s
  | sai k =>
    exact runOp_endsIn (within_seq (argy_within k) fun y => within_seq popa_within fun a =>
      within_seq (mema_within a) fun b => within_seq (store_within a _) fun _ => popx_within y b) s
  | stf k => exact runOp_endsIn (within_seq popa_within fun _ => within_seq popw_within fun w => store_within _ w) s
  | sti k => exact runOp_endsIn (within_seq (argy_within k) fun y => within_seq popa_within (popx_within y)) s
  | sts =>
    exact runOp_endsIn (within_seq popa_within fun n => within_seq (argy_within n) fun y =>
      within_seq popa_within (popx_within y)) s
  | sdl k =>
    exact runOp_endsIn (within_seq (argx_within k) fun _ => within_seq within_get fun _ => popWords_within 2 _) s
  | sde k => exact runOp_endsIn (within_seq (argx_within k) (popWords_within 2)) s
  | sdf k => exact runOp_endsIn (within_seq popa_within fun _ => popWords_within 2 _) s
  -- group 3, integer arithmetic
  | add | sub | mul =>
    exact runOp_endsIn (within_seq (popIntegers_within hq) fun _ => within_seq (chkovf_within hq _) push_within) s
  | div | mod =>
    exact runOp_endsIn (within_seq (popIntegers_within hq) fun _ => within_ite (trap_within hq _) (push_within _)) s
  | neg => exact runOp_endsIn (within_seq popw_within fun t => within_seq (argi_within hq t) fun _ => push_within _) s
  | shl =>
    exact runOp_endsIn (within_seq (popIntegers_within hq) fun _ =>
      within_ite (within_seq (sleftTimes_within hq _ _) push_within)
        (within_seq freshWord_within fun _ => push_within _)) s
  | shr =>
    exact runOp_endsIn (within_seq (popIntegers_within hq) fun _ =>
      within_ite (push_within _) (within_seq freshWord_within fun _ => push_within _)) s
  -- groups 4, 5 and 8, doubles, reals, conversions
  | dad | dsb | dmu =>
    exact runOp_endsIn (within_seq (popDoubles_within hq) fun _ => pushDoubleResult_within hq _ _ _ _) s
  | ddv | dmd => exact runOp_endsIn (within_seq (popDoubles_within hq) fun _ => pushDoubleQuotient_within hq _ _) s
  | fad | fsb | fmu =>
    exact runOp_endsIn (within_seq (popReals_within hq) fun _ =>
      within_seq (floatResult_within hq _ _ _ _) pushr_within) s
  | fdv =>
    exact runOp_endsIn (within_seq (popReals_within hq) fun _ =>
      within_ite (within_seq (trap_within hq _) fun _ => within_seq (push_within _) fun _ => push_within _)
        (within_seq (floatResult_within hq _ _ _ _) pushr_within)) s
  | fif =>
    exact runOp_endsIn (within_seq (popReals_within hq) fun _ => within_seq (floatResult_within hq _ _ _ _) fun _ =>
      within_seq (pushr_within _) fun _ => pushr_within _) s
  | fef =>
    exact runOp_endsIn (within_seq (popr_within hq) fun _ => within_seq (require_within hq _ _) fun _ =>
      within_seq (pushr_within _) fun _ => push_within _) s
  | cid => exact runOp_endsIn (within_seq popw_within pushd_within) s
  | cdi => exact runOp_endsIn (within_seq (popd_within hq) fun d => within_ite (trap_within hq _) (push_within d)) s
  | cif => exact runOp_endsIn (within_seq popw_within fun _ => pushr_within _) s
  | cfi => exact runOp_endsIn (within_seq (popr_within hq) fun _ => within_ite (trap_within hq _) (push_within _)) s
  | cdf => exact runOp_endsIn (within_seq (popd_within hq) fun _ => pushr_within _) s
  | cfd =>
    exact runOp_endsIn (within_seq (popr_within hq) fun _ =>
      within_ite
        (within_seq (trap_within hq _) fun _ => within_seq freshWord_within fun _ =>
          within_seq freshWord_within fun _ => within_seq (push_within _) fun _ => push_within _)
        (pushd_within _)) s
  -- groups 6 and 7, pointers, increment, decrement, zero
  | adi k => exact runOp_endsIn (within_seq popa_within fun _ => push_within _) s
  | pad => exact runOp_endsIn (within_seq popw_within fun _ => within_seq popa_within fun _ => push_within _) s
  | psb => exact runOp_endsIn (within_seq popPointers_within fun _ => within_seq (chkovf_within hq _) push_within) s
  | inc | dec =>
    exact runOp_endsIn (within_seq popw_within fun t => within_seq (argi_within hq t) fun _ =>
      within_seq (chkovf_within hq _) push_within) s
  | inl k | del k =>
    exact runOp_endsIn (within_seq (argx_within k) fun _ => within_seq within_get fun _ =>
      within_seq (memw_within _) fun t => within_seq (argi_within hq t) fun _ =>
        within_seq (chkovf_within hq _) fun z => store_within _ z) s
  | ine k | dee k =>
    exact runOp_endsIn (within_seq (argx_within k) fun x => within_seq (memw_within x) fun t =>
      within_seq (argi_within hq t) fun _ => within_seq (chkovf_within hq _) (store_within x)) s
  | zrl k =>
    exact runOp_endsIn (within_seq (argx_within k) fun _ => within_seq within_get fun _ => store_within _ 0) s
  | zre k => exact runOp_endsIn (within_seq (argx_within k) fun x => store_within x 0) s
  -- groups 9 and 10, logical, sets
  | and k | ior k | xor k => exact runOp_endsIn (logical_within _ k) s
  | ans | ios | xos => exact runOp_endsIn (within_seq popw_within (logical_within _)) s
  | com k => exact runOp_endsIn (complement_within k) s
  | cos => exact runOp_endsIn (within_seq popw_within complement_within) s
  | rol | ror =>
    exact runOp_endsIn (within_seq popWordPair_within fun _ =>
      within_ite (push_within _) (within_seq freshWord_within fun _ => push_within _)) s
  | inn k => exact runOp_endsIn (testBit_within hq k) s
  | ins => exact runOp_endsIn (within_seq popw_within (testBit_within hq)) s
  | xset k => exact runOp_endsIn (singleton_within hq k) s
  | ses => exact runOp_endsIn (within_seq popw_within (singleton_within hq)) s
  -- groups 11 and 12, array, compare
  | lar k => exact runOp_endsIn (loadElement_within hq k) s
  | las => exact runOp_endsIn (within_seq popa_within (loadElement_within hq)) s
  | sar k => exact runOp_endsIn (storeElement_within hq k) s
  | sas => exact runOp_endsIn (within_seq popa_within (storeElement_within hq)) s
  | aar k => exact runOp_endsIn (elementAddress_within hq k) s
  | aas => exact runOp_endsIn (within_seq popa_within (elementAddress_within hq)) s
  | cmi => exact runOp_endsIn (within_seq popWordPair_within fun _ => push_within _) s
  | cmd => exact runOp_endsIn (within_seq (popDoubles_within hq) fun _ => push_within _) s
  | cmf => exact runOp_endsIn (within_seq (popReals_within hq) fun _ => push_within _) s
  | cmp => exact runOp_endsIn (within_seq popPointers_within fun _ => push_within _) s
  | cmu k => exact runOp_endsIn (blockcmp_within k) s
  | cms => exact runOp_endsIn (within_seq popw_within blockcmp_within) s
  | tlt | tle | teq | tne | tge | tgt => exact runOp_endsIn (within_seq popw_within fun _ => push_within _) s
  -- group 13, branch
  | brf k => exact runOp_endsIn (branchIf_within true k) s
  | brb k => exact runOp_endsIn (within_seq (argn_within k) fun _ => within_seq within_get fun _ => newpc_within _) s
  | blt k | ble k | beq k | bne k | bge k | bgt k =>
    exact runOp_endsIn (within_seq popWordPair_within fun _ => branchIf_within _ k) s
  | zlt k | zle k | zeq k | zne k | zge k | zgt k =>
    exact runOp_endsIn (within_seq popw_within fun _ => branchIf_within _ k) s
  -- group 14, procedure call
  | mrk k => exact runOp_endsIn (mark_within (.inl ⟨k, rfl⟩) k) s
  | mrs => exact runOp_endsIn (within_seq popw_within (mark_within (.inr (.inl rfl)))) s
  | mrx k => exact runOp_endsIn (mark_within (.inl ⟨k, rfl⟩) k) s
  | mxs => exact runOp_endsIn (within_seq popw_within (mark_within (.inr (.inl rfl)))) s
  | cal k => exact runOp_endsIn (call_within (.inr (.inr (.inl ⟨k, rfl⟩))) k) s
  | cas => exact runOp_endsIn (within_seq popw_within (call_within (.inr (.inr (.inr (.inl rfl)))))) s
  | ret k => exact runOp_endsIn (leave_within k) s
  | res => exact runOp_endsIn (within_seq popw_within leave_within) s
  -- group 15, miscellaneous
  | beg k => exact runOp_endsIn (reserve_within k) s
  | bes => exact runOp_endsIn (within_seq popw_within reserve_within) s
  | blm k => exact runOp_endsIn (blockMove_within k) s
  | bls => exact runOp_endsIn (within_seq popw_within blockMove_within) s
  | csa => exact execCsa_endsIn s
  | csb => exact execCsb_endsIn s
  | dup k => exact runOp_endsIn (duplicate_within k) s
  | dus => exact runOp_endsIn (within_seq popw_within duplicate_within) s
  | exg =>
    exact runOp_endsIn (within_seq popWordPair_within fun _ => within_seq (push_within _) fun _ => push_within _) s
  | hlt => exact runOp_endsIn (within_seq popw_within fun _ => stop_within (by simp)) s
  | lin k => exact runOp_endsIn (within_seq (argn_within k) (lino_within hq)) s
  | lni => exact runOp_endsIn (within_seq (memw_within 0) fun _ => lino_within hq _) s
  | lor k => exact execLor_endsIn k s
  | mon => exact execMon_endsIn hq s
  | nop => exact runOp_endsIn (within_pure ()) s
  | rck k => exact runOp_endsIn (rangeCheck_within hq k) s
  | rcs => exact runOp_endsIn (within_seq popa_within (rangeCheck_within hq)) s
  | rtt =>
    refine runOp_endsIn (returnFromTrap_within hq fun b => ?_) s
    cases b with
    | true => exact .inr (.inr (.inr (.inr rfl)))
    | false => exact .inr (.inr rfl)
  | sig =>
    have hsig : mayWrite .sig .handler := rfl
    exact runOp_endsIn (within_seq popa_within fun _ => within_seq popa_within fun _ => within_seq within_get fun _ =>
      within_seq (push_within _) fun _ => within_seq (push_within _) fun _ => setErrorProc_within hsig _ _) s
  | str k => exact execStr_endsIn (fun hk => congrArg Instr.str hk) s
  | trp =>
    exact runOp_endsIn (within_seq popw_within fun _ => within_ite (trap_within hq _) (stop_within (by simp))) s
  | lsa k => exact runOp_endsIn (trap_within_of_fatal (n := EILLINS) (by decide)) s
  | illegal op => exact runOp_endsIn (stop_within (by simp)) s

/-- Settles O57: each register from the instructions whose updates may write it. -/
theorem registersWithFewWriters : Obligations.RegistersWithFewWriters := by
  refine ⟨fun i s t hstr hesc h => (exec_endsIn hesc s t h).hp_eq hstr,
    fun i s t hsig hesc h => (exec_endsIn hesc s t h).errorProc_eq hsig,
    fun i s t h hesc hrtt => ⟨fun hmrx hmxs hs => ?_, fun hmrk hmrs hcal hcas hs => ?_⟩⟩
  · refine (exec_endsIn hesc s t h).normalmap_eq (b := true) ?_ hs
    rintro (⟨k, hi⟩ | hi | hi)
    exacts [hmrx k hi, hmxs hi, hrtt hi]
  · refine (exec_endsIn hesc s t h).normalmap_eq (b := false) ?_ hs
    rintro (⟨k, hi⟩ | hi | ⟨k, hi⟩ | hi | hi)
    exacts [hmrk k hi, hmrs hi, hcal k hi, hcas hi, hrtt hi]

end Sys2Proof.Machine
end

section
/-! Fetching an instruction, the cases of a step, and the statements about every step and about the end of the program
text (R13, R22, R102, R414). -/

namespace Sys2Proof.Machine

/-! ## Lengths of decoded instructions (R101, R102) -/

theorem Entry.decode_length {e : Entry} {n m : Nat} {bs : List Byte} {i : Instr} (h : e.decode n bs = .instr i m) :
    m ≤ n + bs.length := by
  cases e with
  | z r | mini r k =>
    cases h
    exact Nat.le_add_right _ _
  | short r high =>
    cases bs with
    | nil => cases h
    | cons b bs =>
      cases h
      simp
  | long r =>
    match bs with
    | [] | [_] => cases h
    | _ :: _ :: _ =>
      cases h
      simp

theorem decodeEscaped_of_some {op : Byte} {e : Entry} (he : secondaryEntry op = some e) (rest : List Byte) :
    decodeEscaped (op :: rest) = e.decode 2 rest := by simp only [decodeEscaped, he]

theorem decodeEscaped_of_none {op : Byte} (he : secondaryEntry op = none) (rest : List Byte) :
    decodeEscaped (op :: rest) = .instr (.illegal op) 2 := by simp only [decodeEscaped, he]

theorem decodeEscaped_length {bs : List Byte} {i : Instr} {n : Nat} (h : decodeEscaped bs = .instr i n) :
    n ≤ bs.length + 1 := by
  cases bs with
  | nil =>
    cases h
    simp
  | cons op rest =>
    cases he : secondaryEntry op with
    | none =>
      rw [decodeEscaped_of_none he] at h
      cases h
      simp
    | some e =>
      rw [decodeEscaped_of_some he] at h
      have := Entry.decode_length h
      simp only [List.length_cons]
      omega

theorem decode_length {normal : Bool} {bs : List Byte} {i : Instr} {n : Nat} (h : decode normal bs = .instr i n) :
    n ≤ bs.length := by
  cases bs with
  | nil => cases h
  | cons op rest =>
    simp only [decode] at h
    simp only [List.length_cons]
    split at h
    · split at h
      · exact decodeEscaped_length h
      · split at h
        · have := Entry.decode_length h
          omega
        · cases h
    · cases h
      simp

/-! ## The bytes that can be fetched (R13, R22) -/

theorem State.fetchable_length_le (s : State) (n : Nat) : ∀ a : Nat, a ≤ s.pd.toNat →
    a + (s.fetchable n a).length ≤ s.pd.toNat := by
  induction n with
  | zero => exact fun a ha => ha
  | succ n ih =>
    intro a ha
    unfold State.fetchable
    split
    · next hlt =>
      have := ih (a + 1) hlt
      simp only [List.length_cons]
      omega
    · exact ha

/-- Fewer bytes than asked for: the text ends behind them. -/
theorem State.fetchable_short (s : State) (n : Nat) : ∀ a : Nat, a ≤ s.pd.toNat → (s.fetchable n a).length < n →
    a + (s.fetchable n a).length = s.pd.toNat := by
  induction n with
  | zero => exact fun a _ h => absurd h (Nat.not_lt_zero _)
  | succ n ih =>
    intro a ha hshort
    unfold State.fetchable at hshort ⊢
    split at hshort
    · next hlt =>
      have := ih (a + 1) hlt (by simpa using hshort)
      simp only [hlt, if_true, List.length_cons]
      omega
    · next hge =>
      simp only [hge, if_false, List.length_nil]
      omega

theorem State.pcI_add_window_le {s : State} (h : s.pcI ≤ s.pdI) : s.pcI + (s.window.length : Int) ≤ s.pdI := by
  have := s.fetchable_length_le 4 s.pc.toNat (Int.ofNat_le.1 h)
  unfold State.window State.pcI State.pdI adr
  omega

/-- PC has gone past bytes that were fetched. -/
def Fetched (s t : State) : Prop := ∃ n : Nat, n ≤ s.window.length ∧ t = s.advance n

@[simp] theorem u16_adr (w : Word) : u16 (adr w) = w := by
  apply BitVec.eq_of_toNat_eq
  unfold u16 adr
  rw [BitVec.toNat_ofInt]
  have := w.isLt
  omega

theorem State.setPc_pcI (s : State) : s.setPc s.pcI = s := by
  unfold State.setPc State.pcI
  rw [u16_adr]

theorem State.advance_zero (s : State) : s.advance 0 = s := by
  simp [State.advance, State.setPc_pcI]

theorem Fetched.refl (s : State) : Fetched s s := ⟨0, Nat.zero_le _, s.advance_zero.symm⟩

theorem Fetched.sameProgram {s t : State} (h : Fetched s t) : sameProgram s t := by
  obtain ⟨n, _, rfl⟩ := h
  exact ⟨rfl, rfl, rfl, rfl⟩

theorem Fetched.status_eq {s t : State} (h : Fetched s t) : t.status = s.status := by
  obtain ⟨n, _, rfl⟩ := h
  rfl

/-! ## The escape byte on its own (R103) -/

/-- Only what the secondary table holds comes from it (R111, R115). -/
theorem execSecondary_cases (i : Instr) (s : State) : execSecondary i s = exec i s ∧ i ≠ .escape ∨
    execSecondary i s = runOp (stop (.aborted EILLINS)) s := by
  cases i with
  | aar | add | cfi | cif | cmf | cmi | csa | csb | dec | div | fad | fdv | fmu | fsb | inc | ine | lae | lar | lde
    | lin | lni | loc | loe | lof | mod | mul | neg | rck | sar | shl | ste | sub | teq | tge | tgt | tle | tlt |
    tne | escape => exact .inr rfl
  | _ => exact .inl ⟨rfl, nofun⟩

/-- Every kind of update. -/
def anyUpdate : Guarded → Prop := fun _ => True

/-- An instruction ends a chain of updates, behind the bytes it fetches itself where it is the escape byte. -/
theorem exec_ends {i : Instr} {s t : State} (h : exec i s = .next t) : ∃ u, Fetched s u ∧ Ends anyUpdate u t := by
  have hexec : ∀ {j : Instr} {u : State}, j ≠ .escape → exec j u = .next t → Ends anyUpdate u t :=
    fun hj hu => (exec_endsIn hj _ _ hu).mono fun _ _ => trivial
  have hstop : ∀ {n : Byte} {u : State}, Ends anyUpdate u (u.stopped (.aborted n)) :=
    fun {n u} => .stops .refl _ (by simp)
  by_cases hi : i = .escape
  · subst hi
    change execEscape s = .next t at h
    unfold execEscape at h
    split at h
    · cases h
      exact ⟨_, ⟨_, le_rfl, rfl⟩, hstop⟩
    · next j n _ hd =>
      refine ⟨s.advance (n - 1), ⟨n - 1, ?_, rfl⟩, ?_⟩
      · have := decodeEscaped_length hd
        omega
      · obtain ⟨hj, hne⟩ | hj := execSecondary_cases j (s.advance (n - 1))
        · exact hexec hne (hj.symm.trans h)
        · rw [hj] at h
          cases h
          exact hstop
    · cases h
      exact ⟨_, ⟨_, le_rfl, rfl⟩, hstop⟩
  · exact ⟨s, Fetched.refl s, hexec hi h⟩

/-! ## The cases of a step -/

/-- The end of every step with errors to deliver (R414). -/
theorem deliver_ends {s t : State} (h : runOp deliver s = .next t) : Ends anyUpdate s t :=
  runOp_endsIn (deliver_within trivial trivial) s t h

/-- What a step does to a state whose signal list is at its next boundary: a signal is taken, or an instruction is
fetched, executed, and pending errors delivered, or the fetch fails (R102, R414, R421). -/
inductive Stepped (s : State) : State → Prop where
  | signal {t : State} (g : Word) (hp : s.pending = []) (h : runOp (takeSignal g) s = .next t) : Stepped s t
  | instr {t u v : State} (i : Instr) (hf : Fetched s u) (hx : exec i u = .next v) (hd : runOp deliver v = .next t) :
      Stepped s t
  | fetchFails (h : decode s.normalmap s.window = .truncated) : Stepped s ((s.advance s.window.length).abort EPC)

theorem stepInstr_stepped {s t : State} (h : stepInstr s = .next t) : Stepped s t := by
  unfold stepInstr at h
  split at h
  · next i n hd =>
    cases hx : exec i (s.advance n) with
    | next v =>
      rw [hx] at h
      exact .instr i ⟨n, decode_length hd, rfl⟩ hx h
    | fault r | refused r =>
      rw [hx] at h
      cases h
  · next hd =>
    cases h
    exact .fetchFails hd

theorem step_stepped {s t : State} (h : step s = .next t) :
    s.status = .running ∧ ∃ l, Stepped { s with signals := l } t := by
  unfold step at h
  split at h
  · next hrun =>
    refine ⟨hrun, ?_⟩
    split at h
    · next g rest hp _ => exact ⟨rest, .signal g hp h⟩
    · next rest _ _ => exact ⟨rest, stepInstr_stepped h⟩
    · exact ⟨s.signals, stepInstr_stepped h⟩
  · cases h

/-- Something every fetch, every update and the stop keep is kept by what a step does. -/
theorem Stepped.invariant {P : State → Prop} (hfetch : ∀ u v, Fetched u v → P u → P v)
    (hstep : ∀ u v, Update anyUpdate u v → P u → P v) (hstop : ∀ u st, P u → P (u.stopped st)) {s t : State}
    (h : Stepped s t) (hs : P s) : P t := by
  have hends : ∀ {u v : State}, Ends anyUpdate u v → P u → P v := fun huv => huv.invariant hstep hstop
  cases h with
  | signal g _ h => exact hends (runOp_endsIn (takeSignal_within trivial trivial trivial g) s t h) hs
  | instr i hf hx hd =>
    obtain ⟨w, hw, hv⟩ := exec_ends hx
    exact hends (deliver_ends hd) (hends hv (hfetch _ _ hw (hfetch _ _ hf hs)))
  | fetchFails => exact hstop _ _ (hfetch _ _ ⟨_, le_rfl, rfl⟩ hs)

/-- Settles O56: no fetch and no update touches the program. -/
theorem noStepChangesTheProgram : Obligations.NoStepChangesTheProgram := by
  intro s t h
  obtain ⟨_, l, hl⟩ := step_stepped h
  exact hl.invariant (P := sameProgram s) (fun _ _ hf hs => hs.trans hf.sameProgram)
    (fun _ _ hu hs => hs.trans hu.sameProgram) (fun _ _ hs => hs) ⟨rfl, rfl, rfl, rfl⟩

/-! ## Soundness (R22 to R25, R60) -/

/-- Soundness of a state, condition by condition. -/
structure State.Sound (s : State) : Prop where
  params_wf : s.params.wf = true
  data_wf : s.data.wf = true
  code_wf : s.code.wf = true
  sigmap_wf : sigWf s.sigmap = true
  data_fits : ∀ c ∈ s.data, c.1 ≤ s.params.maxdata
  code_fits : ∀ c ∈ s.code, c.1 ≤ s.params.maxcode
  lb_even : s.lbI % 2 = 0
  sp_even : s.spI % 2 = 0
  hp_even : s.hpI % 2 = 0
  lb_le : s.lbI ≤ s.spI + 2
  sp_lt : s.spI < s.hpI
  hp_le : s.hpI ≤ s.maxdata + 1
  pc_le : s.pcI ≤ s.pdI
  pd_eq : s.pd = s.header.ntext
  table_fits : s.pdI + 4 * s.nproc ≤ s.maxcode + 1

theorem State.wf_iff_sound (s : State) : s.wf = true ↔ s.Sound := by
  simp only [State.wf, Bool.and_eq_true, decide_eq_true_eq, List.all_eq_true]
  constructor
  · rintro ⟨⟨⟨⟨⟨⟨⟨⟨⟨⟨⟨⟨⟨⟨h1, h2⟩, h3⟩, h4⟩, h5⟩, h6⟩, h7⟩, h8⟩, h9⟩, h10⟩, h11⟩, h12⟩, h13⟩, h14⟩, h15⟩
    exact ⟨h1, h2, h3, h4, h5, h6, h7, h8, h9, h10, h11, h12, h13, h14, h15⟩
  · rintro ⟨h1, h2, h3, h4, h5, h6, h7, h8, h9, h10, h11, h12, h13, h14, h15⟩
    exact ⟨⟨⟨⟨⟨⟨⟨⟨⟨⟨⟨⟨⟨⟨h1, h2⟩, h3⟩, h4⟩, h5⟩, h6⟩, h7⟩, h8⟩, h9⟩, h10⟩, h11⟩, h12⟩, h13⟩, h14⟩, h15⟩

/-- A cell of a written memory is the one written or was there. -/
theorem Memory.mem_write {m : Memory} {x : Nat} {v : Byte} {c : Host.Cell} (h : c ∈ m.write x v) : c.1 = x ∨ c ∈ m := by
  have hcons : ∀ n : Memory, c ∈ Memory.consCell x v n → c.1 = x ∨ c ∈ n := fun n hn => by
    unfold Memory.consCell at hn
    split at hn
    · exact .inr hn
    · exact (List.mem_cons.1 hn).imp_left fun hc => by rw [hc]
  induction m with
  | nil => exact hcons [] h
  | cons d m ih =>
    obtain ⟨a, b⟩ := d
    simp only [Memory.write] at h
    split at h
    · exact hcons _ h
    · split at h
      · exact (hcons _ h).imp_right (List.mem_cons_of_mem _)
      · obtain rfl | h := List.mem_cons.1 h
        · exact .inr List.mem_cons_self
        · exact (ih h).imp_right (List.mem_cons_of_mem _)

/-- Every listed address is at most `n`. -/
def Memory.fits (m : Memory) (n : Nat) : Prop := ∀ c ∈ m, c.1 ≤ n

theorem Memory.fits_write {m : Memory} {n x : Nat} (h : m.fits n) (hx : x ≤ n) (v : Byte) : (m.write x v).fits n :=
  fun c hc => (Memory.mem_write hc).elim (fun hcx => hcx ▸ hx) (h c)

theorem Memory.fits_writeBytes {n : Nat} (bs : List Byte) : ∀ {m : Memory} {x : Nat}, m.fits n → x + bs.length ≤ n + 1 →
    (m.writeBytes x bs).fits n := by
  induction bs with
  | nil => exact fun h _ => h
  | cons b bs ih =>
    intro m x h hx
    simp only [List.length_cons] at hx
    exact ih (Memory.fits_write h (by omega) b) (by omega)

theorem State.fits_storeAdmitted (s : State) (bs : List Byte) : ∀ (a : Nat) (m : Memory), m.fits s.params.maxdata →
    (s.storeAdmitted a bs m).fits s.params.maxdata := by
  induction bs with
  | nil => exact fun _ _ h => h
  | cons b bs ih =>
    intro a m h
    refine ih (a + 1) _ ?_
    split
    · next hok =>
      obtain ⟨_, hmax, _⟩ := (State.okadr_iff s a).1 hok
      exact Memory.fits_write h (Int.ofNat_le.1 hmax) b
    · exact h

/-! ## The table of signal actions stays in order (R35, R405) -/

/-- The order condition on a lower bound and a signal number. -/
theorem sigWfAbove_cons (lo : Option Nat) (g : Word) (a : SigAction) (m : List (Word × SigAction)) :
    sigWfAbove lo ((g, a) :: m) = true ↔ (∀ l, lo = some l → l < g.toNat) ∧ sigWfAbove (some g.toNat) m = true := by
  cases lo <;> simp [sigWfAbove]

theorem sigWfAbove_weaken {lo : Option Nat} {k : Nat} {m : List (Word × SigAction)} (h : sigWfAbove (some k) m = true)
    (hlo : ∀ l, lo = some l → l ≤ k) : sigWfAbove lo m = true := by
  cases m with
  | nil => rfl
  | cons c m =>
    obtain ⟨g, a⟩ := c
    rw [sigWfAbove_cons] at h ⊢
    exact ⟨fun l hl => Nat.lt_of_le_of_lt (hlo l hl) (h.1 k rfl), h.2⟩

theorem sigWfAbove_sigCons {lo : Option Nat} {x : Word} (act : Option SigAction) {m : List (Word × SigAction)}
    (hlo : ∀ l, lo = some l → l < x.toNat) (h : sigWfAbove (some x.toNat) m = true) :
    sigWfAbove lo (sigCons x act m) = true := by
  cases act with
  | none => exact sigWfAbove_weaken h fun l hl => Nat.le_of_lt (hlo l hl)
  | some a => exact (sigWfAbove_cons lo x a m).2 ⟨hlo, h⟩

theorem sigWfAbove_sigUpdate (x : Word) (act : Option SigAction) (m : List (Word × SigAction)) : ∀ lo : Option Nat,
    (∀ l, lo = some l → l < x.toNat) → sigWfAbove lo m = true → sigWfAbove lo (sigUpdate m x act) = true := by
  induction m with
  | nil => exact fun lo hlo _ => sigWfAbove_sigCons act hlo rfl
  | cons c m ih =>
    obtain ⟨g, b⟩ := c
    intro lo hlo h
    obtain ⟨hg, hm⟩ := (sigWfAbove_cons lo g b m).1 h
    unfold sigUpdate
    split
    · next hlt =>
      exact sigWfAbove_sigCons act hlo ((sigWfAbove_cons _ g b m).2 ⟨fun l hl => by cases hl; exact hlt, hm⟩)
    · next hge =>
      split
      · next hxg =>
        subst hxg
        exact sigWfAbove_sigCons act hlo hm
      · next hne =>
        have hlt : g.toNat < x.toNat := by
          have : x.toNat ≠ g.toNat := fun he => hne (BitVec.eq_of_toNat_eq he)
          omega
        exact (sigWfAbove_cons _ g b _).2 ⟨hg, ih _ (fun l hl => by cases hl; exact hlt) hm⟩

theorem sigWf_sigUpdate {m : List (Word × SigAction)} (h : sigWf m = true) (x : Word) (act : Option SigAction) :
    sigWf (sigUpdate m x act) = true :=
  sigWfAbove_sigUpdate x act m none (fun _ hl => by cases hl) h

/-! ## Every update keeps a state sound -/

section
variable {s : State} (h : s.Sound)
include h

theorem State.Sound.maxdata_bounds : s.maxdata ≤ 65533 ∧ s.maxdata % 2 = 1 := by
  have hw := State.wf_registers ((State.wf_iff_sound s).2 h)
  omega

theorem State.Sound.setPc {a : Int} (ha : s.okpc a = true) : (s.setPc a).Sound := by
  simp only [State.okpc, Bool.and_eq_true, decide_eq_true_eq] at ha
  have hpd : s.pdI < 65536 := adr_lt s.pd
  have hpc : (s.setPc a).pcI = a := State.pcI_setPc s ha.1 (by omega)
  exact { h with pc_le := by rw [hpc]; exact ha.2 }

theorem State.Sound.setSp {a : Int} (ha : s.oksp a = true) : (s.setSp a).Sound := by
  simp only [State.oksp, Bool.and_eq_true, decide_eq_true_eq] at ha
  obtain ⟨⟨hlow, hhigh⟩, heven⟩ := ha
  have hmax := h.maxdata_bounds
  have hhp := h.hp_le
  have hlb : 0 ≤ s.lbI := adr_nonneg s.lb
  have hsp : (s.setSp a).spI = a := State.spI_setSp s (by omega) (by omega)
  exact { h with
    sp_even := by rw [hsp]; exact heven
    lb_le := by rw [hsp]; exact Int.le_add_of_sub_right_le hlow
    sp_lt := by rw [hsp]; exact hhigh }

theorem State.Sound.setLb {a : Int} (h0 : 0 ≤ a) (ha : s.oklb a = true) : (s.setLb a).Sound := by
  simp only [State.oklb, Bool.and_eq_true, decide_eq_true_eq] at ha
  have hmax := h.maxdata_bounds
  have hhp := h.hp_le
  have hlt := h.sp_lt
  have hlb : (s.setLb a).lbI = a := State.lbI_setLb s h0 (by omega)
  exact { h with lb_even := by rw [hlb]; exact ha.2, lb_le := by rw [hlb]; exact ha.1 }

theorem State.Sound.setHp {a : Int} (ha : s.okhp a = true) : (s.setHp a).Sound := by
  simp only [State.okhp, Bool.and_eq_true, decide_eq_true_eq] at ha
  obtain ⟨⟨hlow, hhigh⟩, heven⟩ := ha
  have hmax := h.maxdata_bounds
  have hsp := s.spI_ge
  have hhp : (s.setHp a).hpI = a := State.hpI_setHp s (by omega) (by omega)
  exact { h with
    hp_even := by rw [hhp]; exact heven
    sp_lt := by rw [hhp]; exact hlow
    hp_le := by rw [hhp]; exact hhigh }

theorem State.Sound.putByte {a : Int} (ha : s.okadr a = true) (b : Byte) : (s.putByte a b).Sound := by
  obtain ⟨h0, hmax, _⟩ := (State.okadr_iff s a).1 ha
  exact { h with
    data_wf := State.data_wf_putByte h.data_wf a b
    data_fits := Memory.fits_write h.data_fits (Int.toNat_le.2 hmax) b }

/-- The highest address is odd, so that the high byte of a word at an even address is inside the space (D2). -/
theorem State.Sound.putWord {a : Int} (ha : s.okword a = true) (v : Int) : (s.putWord a v).Sound := by
  obtain ⟨heven, h0, hmax, _⟩ := (State.okword_iff s a).1 ha
  have hodd := h.maxdata_bounds
  have hlow : a.toNat ≤ s.params.maxdata := Int.toNat_le.2 hmax
  have hhigh : a.toNat + 1 ≤ s.params.maxdata := by
    unfold State.maxdata at *
    omega
  exact { h with
    data_wf := State.data_wf_putWord h.data_wf a v
    data_fits := Memory.fits_write (Memory.fits_write h.data_fits hlow _) hhigh _ }

theorem Update.sound {K : Guarded → Prop} {t : State} (hu : Update K s t) : t.Sound := by
  cases hu with
  | setPc a ha => exact h.setPc ha
  | setSp a ha => exact h.setSp ha
  | setLb a h0 ha => exact h.setLb h0 ha
  | setHp a ha _ => exact h.setHp ha
  | putWord a v ha => exact h.putWord ha v
  | putByte a b ha => exact h.putByte ha b
  | storeAdmitted a bs n =>
    exact { h with
      data_wf := State.storeAdmitted_wf s bs a s.data h.data_wf
      data_fits := State.fits_storeAdmitted s bs a s.data h.data_fits }
  | sigUpdate g act n => exact { h with sigmap_wf := sigWf_sigUpdate h.sigmap_wf g act }
  | setNormal | countFree | raise | restorePending | setErrorProc | beginTrap => exact { h with }

theorem State.Sound.fetched {t : State} (hf : Fetched s t) : t.Sound := by
  obtain ⟨n, hn, rfl⟩ := hf
  have := State.pcI_add_window_le h.pc_le
  have : 0 ≤ s.pcI := adr_nonneg s.pc
  refine h.setPc ?_
  simp only [State.okpc, Bool.and_eq_true, decide_eq_true_eq]
  omega

end

theorem State.Sound.stopped {s : State} (h : s.Sound) (st : Status) : (s.stopped st).Sound := { h with }

theorem Stepped.sound {s t : State} (h : Stepped s t) (hs : s.Sound) : t.Sound :=
  h.invariant (P := State.Sound) (fun _ _ hf hu => hu.fetched hf) (fun _ _ hu hs => hu.sound hs)
    (fun _ st hs => hs.stopped st) hs

/-! ## Nothing is left to deliver (R413, R414) -/

theorem runOp_congr {m m' : Op Unit} {s s' : State} (h : m s = m' s') : runOp m s = runOp m' s' := by
  unfold runOp EStateM.run
  rw [h]

/-- Trap entry queues nothing, and a stop discards what is queued. -/
theorem deliver_pending {s t : State} (hs : s.status = .running ∨ s.pending = []) (h : runOp deliver s = .next t) :
    t.pending = [] := by
  have hd := deliver_spec s
  split at hd
  · split at hd
    · next hp =>
      rw [runOp_of_ok hd] at h
      cases h
      exact hp
    · next n rest _ =>
      split at hd
      · rw [runOp_of_error hd] at h
        cases h
        rfl
      · rw [runOp_congr (hd.trans (enter_eq n rest s))] at h
        have he := runOp_endsIn (enterFrame_within (K := (· = .context true)) rfl n s) _ t h
        exact he.pending_nil (by simp) (by simp) rfl
  · next hrun =>
    rw [runOp_of_ok hd] at h
    cases h
    exact hs.resolve_left hrun

/-- A signal is ignored, stops the machine, or is queued and delivered at once (R406, R421). -/
theorem takeSignal_cases (g : Word) (s : State) : takeSignal g s = .ok () s ∨
    (∃ n, takeSignal g s = .error () (s.stopped (.aborted n))) ∨ ∃ n, takeSignal g s = deliver (s.raise n) := by
  unfold takeSignal
  split
  · next n _ =>
    have htrap := trap_spec n s
    split at htrap
    · exact .inr (.inl ⟨n, Op.bind_of_error htrap⟩)
    · exact .inr (.inr ⟨n, Op.bind_of_ok htrap⟩)
  · exact .inl rfl
  · split
    · next n _ => exact .inr (.inl ⟨n, rfl⟩)
    · exact .inl rfl

theorem takeSignal_pending {g : Word} {s t : State} (hrun : s.status = .running) (hp : s.pending = [])
    (h : runOp (takeSignal g) s = .next t) : t.pending = [] := by
  obtain hg | ⟨n, hg⟩ | ⟨n, hg⟩ := takeSignal_cases g s
  · rw [runOp_of_ok hg] at h
    cases h
    exact hp
  · rw [runOp_of_error hg] at h
    cases h
    rfl
  · rw [runOp_congr hg] at h
    exact deliver_pending (s := s.raise n) (.inl hrun) h

theorem Stepped.pending_nil {s t : State} (h : Stepped s t) (hrun : s.status = .running) : t.pending = [] := by
  cases h with
  | signal g hp h => exact takeSignal_pending hrun hp h
  | instr i hf hx hd =>
    obtain ⟨w, hw, hv⟩ := exec_ends hx
    refine deliver_pending ?_ hd
    exact (hv.running_or_discarded (hw.status_eq.trans (hf.status_eq.trans hrun))).imp_right And.right
  | fetchFails => rfl

/-- The invariant between two steps: soundness, and nothing to deliver. -/
theorem State.inv_iff (s : State) : s.inv = true ↔ s.Sound ∧ s.pending = [] := by
  rw [State.inv, Bool.and_eq_true, State.wf_iff_sound, decide_eq_true_eq]

/-- Settles O55: every fetch, every update and the stop keep a state sound; the end of the step delivers. -/
theorem everyStepKeepsTheInvariant : Obligations.EveryStepKeepsTheInvariant := by
  intro s t hs h
  obtain ⟨hsound, _⟩ := (State.inv_iff s).1 hs
  obtain ⟨hrun, l, hl⟩ := step_stepped h
  exact (State.inv_iff t).2 ⟨hl.sound { hsound with }, hl.pending_nil hrun⟩

end Sys2Proof.Machine
end

section
/-! The state after reset, and running off the end of the program text (R22, R36, R102). -/

namespace Sys2Proof.Machine

/-! ## After reset (R36, R451) -/

/-- Settles O1: the words of the mark block are the only bytes of the data space that differ from 0. -/
theorem resetMatchesStartTable : Obligations.ResetMatchesStartTable := by
  refine ⟨by decide, by decide, by decide, by decide, by decide, by decide, by decide, rfl, rfl, rfl, rfl, rfl, rfl,
    rfl, rfl, fun a ha => ?_, fun _ => rfl⟩
  have hne : ∀ x : Nat, x ≤ 7 → a.toNat ≠ x := fun x hx => by omega
  simp [State.byte, State.reset, Memory.read, Memory.unlisted, hne]

/-- Settles O2. -/
theorem resetSatisfiesInvariant : Obligations.ResetSatisfiesInvariant := ⟨by decide, rfl⟩

/-! ## The end of the program text (R22, R102) -/

/-- Every opcode but the escape byte is assigned (R110). -/
theorem primaryEntry_isSome : ∀ op : Byte, (primaryEntry op).isSome = decide (op ≠ 0#8) := by decide

theorem Entry.length_of_truncated {e : Entry} {n : Nat} {bs : List Byte} (h : e.decode n bs = .truncated) :
    bs.length < 2 := by
  cases e with
  | z r | mini r k => cases h
  | short r high =>
    cases bs with
    | nil => decide
    | cons b bs => cases h
  | long r =>
    match bs with
    | [] | [_] => simp
    | _ :: _ :: _ => cases h

theorem decodeEscaped_length_of_truncated {bs : List Byte} (h : decodeEscaped bs = .truncated) : bs.length < 3 := by
  cases bs with
  | nil => cases h
  | cons op rest =>
    cases he : secondaryEntry op with
    | none =>
      rw [decodeEscaped_of_none he] at h
      cases h
    | some e =>
      rw [decodeEscaped_of_some he] at h
      have := Entry.length_of_truncated h
      simp only [List.length_cons]
      omega

/-- No instruction is longer than four bytes (R100). -/
theorem decode_length_of_truncated {normal : Bool} {bs : List Byte} (h : decode normal bs = .truncated) :
    bs.length < 4 := by
  cases bs with
  | nil => decide
  | cons op rest =>
    simp only [decode] at h
    simp only [List.length_cons]
    split at h
    · split at h
      · have := decodeEscaped_length_of_truncated h
        omega
      · next hop =>
        split at h
        · have := Entry.length_of_truncated h
          omega
        · next hnone =>
          have hne : op ≠ 0#8 := hop
          have hsome := primaryEntry_isSome op
          rw [hnone, decide_eq_true hne] at hsome
          cases hsome
    · cases h

theorem step_of_truncated {s : State} (hrun : s.status = .running) (hsig : s.signals = [])
    (hd : decode s.normalmap s.window = .truncated) :
    step s = .next ((s.setPc (s.pcI + (s.window.length : Int))).abort EPC) := by
  have hstep : step s = stepInstr s := by
    unfold step
    rw [if_pos hrun]
    split
    · next hg => cases hsig.symm.trans hg
    · next hg => cases hsig.symm.trans hg
    · rfl
  rw [hstep, stepInstr, hd]
  rfl

/-- Settles O7: a truncated instruction leaves fewer than four bytes up to the end of the text, and none at its end. -/
theorem runningOffTheTextStops : Obligations.RunningOffTheTextStops := by
  refine ⟨fun s _ hrun hsig hend => ?_, fun s h hrun hsig hd => ⟨step_of_truncated hrun hsig hd, ?_⟩⟩
  · have hw : s.window = [] := by
      have hpc : s.pc.toNat = s.pd.toNat := Int.ofNat.inj hend
      simp [State.window, State.fetchable, hpc]
    have hstep := step_of_truncated hrun hsig (by rw [hw]; rfl)
    rwa [hw, List.length_nil, Int.natCast_zero, Int.add_zero, State.setPc_pcI] at hstep
  · have hle : s.pc.toNat ≤ s.pd.toNat := Int.ofNat_le.1 ((State.wf_iff_sound s).1 h).pc_le
    exact_mod_cast congrArg Int.ofNat (s.fetchable_short 4 _ hle (decode_length_of_truncated hd))

end Sys2Proof.Machine
end

section
/-! The start state of a program: what the start-up sequence lays out in the data space, and what the load file puts
into the instruction space (R451). -/

namespace Sys2Proof.Machine

/-! ## Bytes written at ascending addresses -/

theorem Memory.read_writeBytes_outside (bs : List Byte) : ∀ {m : Memory} {x y : Nat}, m.wf = true →
    y < x ∨ x + bs.length ≤ y → (m.writeBytes x bs).read y = m.read y := by
  induction bs with
  | nil => exact fun _ _ => rfl
  | cons b bs ih =>
    intro m x y h hy
    simp only [List.length_cons] at hy
    rw [Memory.writeBytes, ih (Memory.wf_write m x b h) (by omega), Memory.read_write m h, if_neg (by omega)]

theorem Memory.read_writeBytes (bs : List Byte) : ∀ {m : Memory} {x j : Nat}, m.wf = true → j < bs.length →
    (m.writeBytes x bs).read (x + j) = bs.getD j 0#8 := by
  induction bs with
  | nil => exact fun _ hj => absurd hj (Nat.not_lt_zero _)
  | cons b bs ih =>
    intro m x j h hj
    have hw := Memory.wf_write m x b h
    cases j with
    | zero =>
      rw [Memory.writeBytes, Memory.read_writeBytes_outside bs hw (by omega), Memory.read_write m h]
      simp
    | succ j =>
      rw [Memory.writeBytes, show x + (j + 1) = x + 1 + j by omega, ih hw (Nat.lt_of_succ_lt_succ hj)]
      simp

/-! ## Words laid out from address 0 up (R451 steps 5 to 10) -/

/-- `s` is the sound state `b` but for SP and the data space, which holds the words `ws` from address 0 up and zeros
behind them; SP is at the last of them. -/
structure LaidOut (b s : State) (ws : List Word) : Prop where
  sound : s.Sound
  rest_eq : s = { b with sp := s.sp, data := s.data }
  sp_eq : s.spI = 2 * (ws.length : Int) - 2
  word_eq : ∀ j : Nat, j < ws.length → s.word (2 * (j : Int)) = ws.getD j 0#16
  zero_above : ∀ a : Int, 2 * (ws.length : Int) ≤ a → s.byte a = 0#8

/-- Statements that, where they go on, lay out the words `vs` behind those there are. -/
def Lays (m : Op Unit) (vs : List Word) : Prop :=
  ∀ b s t ws, LaidOut b s ws → m s = .ok () t → LaidOut b t (ws ++ vs)

theorem sound_of_ok {α : Type} {m : Op α} (hm : Within anyUpdate m) {s t : State} {a : α} (hs : s.Sound)
    (h : m s = .ok a t) : t.Sound := by
  have hr := hm s
  rw [h] at hr
  exact Updates.invariant (P := State.Sound) (fun _ _ hu hs => hu.sound hs) hr hs

theorem push_ok {s t : State} {v : Int} (hs : s.wf = true) (h : push v s = .ok () t) :
    t = s.pushed v ∧ s.room 2 = true := by
  rw [push_spec hs] at h
  split at h
  · next hr =>
    cases h
    exact ⟨rfl, hr⟩
  · cases h

theorem lays_push (v : Int) : Lays (push v) [u16 v] := by
  intro b s t ws hl h
  have hw := (State.wf_iff_sound s).2 hl.sound
  obtain ⟨rfl, hroom⟩ := push_ok hw h
  have hsp := hl.sp_eq
  have hbyte : ∀ x : Int, 0 ≤ x → (s.pushed v).byte x =
      if x = s.spI + 2 + 1 then highByte (u16 v) else if x = s.spI + 2 then lowByte (u16 v) else s.byte x :=
    fun x hx => State.byte_putWord hw (by omega) hx v
  refine ⟨sound_of_ok (push_within v) hl.sound h, ?_, ?_, fun j hj => ?_, fun a ha => ?_⟩
  · rw [hl.rest_eq]
    rfl
  · have hreg := State.wf_registers hw
    have hlt : s.spI + 2 < s.hpI := of_decide_eq_true hroom
    have : (s.pushed v).spI = s.spI + 2 := State.spI_setSp s (by omega) (by omega)
    simp only [List.length_append, List.length_singleton]
    omega
  · rw [List.length_append, List.length_singleton] at hj
    by_cases hlast : j < ws.length
    · rw [List.getD_append _ _ _ _ hlast, ← hl.word_eq j hlast, State.word_eq_wordOf _ (by omega),
        State.word_eq_wordOf _ (by omega), hbyte _ (by omega), hbyte _ (by omega)]
      simp only [show ¬ 2 * (j : Int) = s.spI + 2 + 1 by omega, show ¬ 2 * (j : Int) = s.spI + 2 by omega,
        show ¬ 2 * (j : Int) + 1 = s.spI + 2 + 1 by omega, show ¬ 2 * (j : Int) + 1 = s.spI + 2 by omega, if_false]
    · obtain rfl : j = ws.length := by omega
      rw [List.getD_append_right _ _ _ _ le_rfl, Nat.sub_self, show 2 * (ws.length : Int) = s.spI + 2 by omega]
      exact State.word_putWord_same hw (by omega) v
  · simp only [List.length_append, List.length_singleton] at ha
    rw [hbyte a (by omega), if_neg (by omega), if_neg (by omega)]
    exact hl.zero_above a (by omega)

theorem lays_pure : Lays (pure ()) [] := by
  intro b s t ws hl h
  cases h
  rwa [List.append_nil]

theorem lays_seq {m m' : Op Unit} {vs vs' : List Word} (hm : Lays m vs) (hm' : Lays m' vs') :
    Lays (m >>= fun _ => m') (vs ++ vs') := by
  intro b s t ws hl h
  obtain ⟨_, u, hu, h⟩ := Op.ok_of_bind_ok h
  rw [← List.append_assoc]
  exact hm' b u t _ (hm b s u ws hl hu) h

theorem lays_pushWord (w : Word) : Lays (push (adr w)) [w] := by
  simpa using lays_push (adr w)

theorem lays_pushTimes (v : Int) (n : Nat) : Lays (pushTimes v n) (List.replicate n (u16 v)) := by
  induction n with
  | zero => exact lays_pure
  | succ n ih => exact lays_seq (lays_push v) ih

theorem lays_pushAll (ws : List Word) : Lays (pushAll ws) ws := by
  induction ws with
  | nil => exact lays_pure
  | cons w ws ih => exact lays_seq (lays_pushWord w) ih

theorem lays_pushDoubles (ds : List (Word × Word)) : Lays (pushDoubles ds) (DataBlock.doubles ds).contents := by
  induction ds with
  | nil => exact lays_pure
  | cons d ds ih => exact lays_seq (lays_seq (lays_pushWord _) (lays_pushWord _)) ih

theorem lays_pushFloats (cs : List (List Byte)) : Lays (pushFloats cs) (DataBlock.floats cs).contents := by
  induction cs with
  | nil => exact lays_pure
  | cons c cs ih => exact lays_seq (lays_seq (lays_pushWord _) (lays_pushWord _)) ih

theorem lays_pushBlock (b : DataBlock) : Lays (pushBlock b) b.contents := by
  cases b with
  | uninitialized n => exact lays_pushTimes _ n
  | words ws | pointers ws => exact lays_pushAll ws
  | doubles ds => exact lays_pushDoubles ds
  | floats cs => exact lays_pushFloats cs

theorem lays_pushBlocks (bs : List DataBlock) : Lays (pushBlocks bs) (bs.flatMap DataBlock.contents) := by
  induction bs with
  | nil => exact lays_pure
  | cons b bs ih => exact lays_seq (lays_pushBlock b) ih

/-! ## The start-up sequence is made of the shared statements -/

section
variable {K : Guarded → Prop}

theorem pushAll_within (ws : List Word) : Within K (pushAll ws) := by
  induction ws with
  | nil => exact within_pure ()
  | cons w ws ih => exact within_seq (push_within _) fun _ => ih

theorem pushDoubles_within (ds : List (Word × Word)) : Within K (pushDoubles ds) := by
  induction ds with
  | nil => exact within_pure ()
  | cons d ds ih => exact within_seq (pushd_within _) fun _ => ih

theorem pushFloats_within (cs : List (List Byte)) : Within K (pushFloats cs) := by
  induction cs with
  | nil => exact within_pure ()
  | cons c cs ih => exact within_seq (pushr_within _) fun _ => ih

theorem pushBlock_within (b : DataBlock) : Within K (pushBlock b) := by
  cases b with
  | uninitialized n => exact pushTimes_within _ n
  | words ws | pointers ws => exact pushAll_within ws
  | doubles ds => exact pushDoubles_within ds
  | floats cs => exact pushFloats_within cs

theorem pushBlocks_within (bs : List DataBlock) : Within K (pushBlocks bs) := by
  induction bs with
  | nil => exact within_pure ()
  | cons b bs ih => exact within_seq (pushBlock_within b) fun _ => ih

theorem startUp_within (hq : K .queue) (f : LoadFile) : Within K f.startUp :=
  within_seq (lino_within hq 0) fun _ => within_seq (pushTimes_within _ _) fun _ =>
    within_seq (pushBlocks_within _) fun _ => within_seq within_get fun s => within_seq (push_within _) fun _ =>
      within_seq (push_within _) fun _ => within_seq (push_within _) fun _ =>
        have h0 : 0 ≤ s.spI + 8 := by
          have := s.spI_ge
          omega
        within_seq (newlb_within h0) fun _ => within_seq (procBase_within _) newpc_within

end

/-! ## The start state -/

/-- The conditions of an accepted load file the start state rests on. -/
theorem LoadFile.accepted_sizes {f : LoadFile} {p : Params} (h : f.accepted p = true) :
    p.wf = true ∧ f.text.length = f.header.ntext.toNat ∧ f.descriptors.length = 4 * f.header.nproc.toNat ∧
      f.header.ntext.toNat + 4 * f.header.nproc.toNat ≤ p.maxcode + 1 := by
  simp only [LoadFile.accepted, LoadFile.wf, Bool.and_eq_true, decide_eq_true_eq] at h
  obtain ⟨⟨⟨hp, ⟨⟨⟨_, htext⟩, _⟩, hdesc⟩, _⟩, _⟩, hsize⟩ := h
  exact ⟨hp, htext, hdesc, hsize⟩

theorem Memory.wf_nil : Memory.wf [] = true := rfl

theorem Memory.fits_nil (n : Nat) : Memory.fits [] n := fun _ hc => by cases hc

theorem LoadFile.blank_sound {f : LoadFile} {p : Params} (h : f.accepted p = true) : (f.blank p).Sound := by
  obtain ⟨hp, htext, hdesc, hsize⟩ := LoadFile.accepted_sizes h
  have hmax : (p.maxdata : Int) ≤ 65533 ∧ (p.maxdata : Int) % 2 = 1 := by
    simp only [Params.wf, Bool.and_eq_true, decide_eq_true_eq, beq_iff_eq] at hp
    omega
  have hhp : (f.blank p).hpI = (p.maxdata : Int) + 1 := adr_u16 (by omega) (by omega)
  have hsp : (f.blank p).spI = 0 := rfl
  have hpd : (f.blank p).pdI = (f.header.ntext.toNat : Int) := rfl
  have hnproc : (f.blank p).nproc = (f.header.nproc.toNat : Int) := rfl
  have hmaxcode : (f.blank p).maxcode = (p.maxcode : Int) := rfl
  have hparams : (f.blank p).params.maxcode = p.maxcode := rfl
  exact {
    params_wf := hp
    data_wf := rfl
    code_wf := Memory.wf_writeBytes _ _ _ (Memory.wf_writeBytes _ _ _ Memory.wf_nil)
    sigmap_wf := rfl
    data_fits := Memory.fits_nil _
    code_fits := Memory.fits_writeBytes _ (Memory.fits_writeBytes _ (Memory.fits_nil _) (by omega)) (by omega)
    lb_even := rfl
    sp_even := rfl
    hp_even := by omega
    lb_le := by rw [hsp]; exact (by decide : (0 : Int) ≤ 0 + 2)
    sp_lt := by omega
    hp_le := Int.le_of_eq hhp
    pc_le := adr_nonneg _
    pd_eq := rfl
    table_fits := by omega }

/-- The line number 0 is all the first step of the start-up lays out; a negative NLINE stops the machine. -/
theorem lino_blank {f : LoadFile} {p : Params} {s : State} (h : lino 0 (f.blank p) = .ok () s) : s = f.blank p := by
  obtain ⟨_, u, hu, h⟩ := Op.ok_of_bind_ok h
  cases hu
  obtain ⟨_, u, hu, h⟩ := Op.ok_of_bind_ok h
  have hdefault : (f.blank p).defaultHandling = true := rfl
  have hub : u = f.blank p := by
    rw [require_spec, trap_spec, hdefault, Bool.or_true, if_pos rfl] at hu
    split at hu
    · cases hu
      rfl
    · cases hu
  subst hub
  rw [store_spec] at h
  split at h
  · cases h
    rfl
  · cases h

theorem LoadFile.blank_laidOut {f : LoadFile} {p : Params} (h : f.accepted p = true) :
    LaidOut (f.blank p) (f.blank p) [0#16] where
  sound := LoadFile.blank_sound h
  rest_eq := rfl
  sp_eq := rfl
  word_eq j hj := by
    obtain rfl : j = 0 := by simpa using hj
    rfl
  zero_above _ _ := rfl

theorem newlb_ok {a : Int} {u : Unit} {s t : State} (h : newlb a s = .ok u t) : s.oklb a = true ∧ t = s.setLb a := by
  rw [newlb_spec] at h
  split at h
  · next hok =>
    cases h
    exact ⟨hok, rfl⟩
  · cases h

theorem newpc_ok {a : Int} {u : Unit} {s t : State} (h : newpc a s = .ok u t) : s.okpc a = true ∧ t = s.setPc a := by
  rw [newpc_spec] at h
  split at h
  · next hok =>
    cases h
    exact ⟨hok, rfl⟩
  · cases h

theorem procBase_ok {n v : Int} {s t : State} (h : procBase n s = .ok v t) : v = s.procBaseOf n ∧ t = s := by
  change memi _ s = .ok v t at h
  rw [memi_spec] at h
  split at h
  · cases h
    exact ⟨rfl, rfl⟩
  · cases h

/-- A start-up that goes on: the words of the global data area and the first mark block are laid out, then LB and PC are
set. -/
theorem startUp_ok {f : LoadFile} {p : Params} {s : State} (ha : f.accepted p = true)
    (h : f.startUp (f.blank p) = .ok () s) : ∃ u : State,
      LaidOut (f.blank p) u (f.globals ++ [u16 (f.blank p).maxdata, u16 (f.blank p).maxdata, u16 (f.blank p).maxcode]) ∧
      u.oklb (2 * (f.globals.length : Int) + 6) = true ∧ u.okpc (u.procBaseOf (adr f.header.entry)) = true ∧
      s = (u.setLb (2 * (f.globals.length : Int) + 6)).setPc (u.procBaseOf (adr f.header.entry)) := by
  obtain ⟨_, u, hu, h⟩ := Op.ok_of_bind_ok h
  obtain rfl := lino_blank hu
  obtain ⟨_, v, hv, h⟩ := Op.ok_of_bind_ok h
  have hl := lays_pushTimes _ _ _ _ _ _ (LoadFile.blank_laidOut ha) hv
  obtain ⟨_, w, hw, h⟩ := Op.ok_of_bind_ok h
  have hl := lays_pushBlocks _ _ _ _ _ hl hw
  have hl : LaidOut (f.blank p) w f.globals := hl
  obtain ⟨_, _, hget, h⟩ := Op.ok_of_bind_ok h
  cases hget
  have hmaxdata : w.maxdata = (f.blank p).maxdata := by rw [hl.rest_eq]; rfl
  have hmaxcode : w.maxcode = (f.blank p).maxcode := by rw [hl.rest_eq]; rfl
  have hsp : w.spI + 8 = 2 * (f.globals.length : Int) + 6 := by
    have := hl.sp_eq
    omega
  rw [hmaxdata, hmaxcode, hsp] at h
  obtain ⟨_, x, hx, h⟩ := Op.ok_of_bind_ok h
  have hl := lays_push _ _ _ _ _ hl hx
  obtain ⟨_, y, hy, h⟩ := Op.ok_of_bind_ok h
  have hl := lays_push _ _ _ _ _ hl hy
  obtain ⟨_, u, hu, h⟩ := Op.ok_of_bind_ok h
  have hl := lays_push _ _ _ _ _ hl hu
  obtain ⟨_, z, hz, h⟩ := Op.ok_of_bind_ok h
  obtain ⟨hlb, rfl⟩ := newlb_ok hz
  obtain ⟨base, _, hbase, h⟩ := Op.ok_of_bind_ok h
  obtain ⟨rfl, rfl⟩ := procBase_ok hbase
  obtain ⟨hpc, rfl⟩ := newpc_ok h
  rw [List.append_assoc, List.append_assoc] at hl
  exact ⟨u, hl, hlb, hpc, rfl⟩

/-- A start state that runs: its start-up has gone on to its end. -/
theorem LoadFile.start_running {f : LoadFile} {p : Params} {s : State} (h : f.start p = some s)
    (hrun : s.status = .running) : f.accepted p = true ∧ f.startUp (f.blank p) = .ok () s := by
  unfold LoadFile.start EStateM.run at h
  split at h
  · next ha =>
    refine ⟨ha, ?_⟩
    have hends := startUp_within (K := anyUpdate) trivial f (f.blank p)
    split at h
    · next hm =>
      cases h
      exact hm
    · next hm =>
      cases h
      rw [hm] at hends
      obtain ⟨u, st, _, hst, rfl⟩ := hends
      exact absurd hrun hst
  · cases h

/-- The instruction space holds the text, the descriptor table behind it, then zeros. -/
theorem LoadFile.read_code {f : LoadFile} {p : Params} (h : f.accepted p = true) :
    (∀ j : Nat, j < f.text.length → (f.blank p).code.read j = f.text.getD j 0#8) ∧
    (∀ j : Nat, j < f.descriptors.length → (f.blank p).code.read (f.text.length + j) = f.descriptors.getD j 0#8) ∧
    (∀ j : Nat, f.text.length + f.descriptors.length ≤ j → (f.blank p).code.read j = 0#8) := by
  obtain ⟨_, htext, _⟩ := LoadFile.accepted_sizes h
  have hwf := Memory.wf_writeBytes [] 0 f.text Memory.wf_nil
  have hcode : (f.blank p).code = (Memory.writeBytes [] 0 f.text).writeBytes f.text.length f.descriptors := by
    rw [htext]
    rfl
  rw [hcode]
  refine ⟨fun j hj => ?_, fun j hj => Memory.read_writeBytes _ hwf hj, fun j hj => ?_⟩
  · rw [Memory.read_writeBytes_outside _ hwf (.inl hj)]
    simpa using Memory.read_writeBytes f.text (x := 0) Memory.wf_nil hj
  · rw [Memory.read_writeBytes_outside _ hwf (.inr hj),
      Memory.read_writeBytes_outside _ Memory.wf_nil (.inr (by omega))]
    rfl

/-- The words of the first mark block (R36, R451 step 10). -/
def LoadFile.firstMark (f : LoadFile) (p : Params) : List Word :=
  [u16 (f.blank p).maxdata, u16 (f.blank p).maxdata, u16 (f.blank p).maxcode]

section
variable {f : LoadFile} {p : Params} {s : State} (ha : f.accepted p = true) (hok : f.startUp (f.blank p) = .ok () s)
include ha hok

/-- The start-up sets PC, LB and SP and lays out the data; all else is as it was before. -/
theorem startUp_rest : s = { f.blank p with pc := s.pc, lb := s.lb, sp := s.sp, data := s.data } := by
  obtain ⟨u, hl, _, _, hs⟩ := startUp_ok ha hok
  rw [hs]
  exact congrArg (fun v : State => (v.setLb _).setPc _) hl.rest_eq

theorem startUp_sound : s.Sound := sound_of_ok (startUp_within trivial f) (LoadFile.blank_sound ha) hok

theorem startUp_lbI : s.lbI = 2 * (f.globals.length : Int) + 6 := by
  obtain ⟨u, hl, hlb, _, rfl⟩ := startUp_ok ha hok
  simp only [State.oklb, Bool.and_eq_true, decide_eq_true_eq] at hlb
  have := State.wf_registers ((State.wf_iff_sound u).2 hl.sound)
  exact State.lbI_setLb u (by omega) (by omega)

theorem startUp_spI : s.spI = 2 * (f.globals.length : Int) + 4 := by
  obtain ⟨u, hl, _, _, rfl⟩ := startUp_ok ha hok
  have hsp := hl.sp_eq
  simp only [List.length_append, List.length_cons, List.length_nil] at hsp
  show u.spI = _
  omega

theorem startUp_pcI : s.pcI = s.procBaseOf (adr f.header.entry) := by
  obtain ⟨u, _, _, hpc, rfl⟩ := startUp_ok ha hok
  simp only [State.okpc, Bool.and_eq_true, decide_eq_true_eq] at hpc
  have : u.pdI < 65536 := adr_lt u.pd
  exact State.pcI_setPc _ hpc.1 (by omega)

theorem startUp_global {j : Nat} (hj : j < f.globals.length) : s.word (2 * (j : Int)) = f.globals.getD j 0#16 := by
  obtain ⟨u, hl, _, _, rfl⟩ := startUp_ok ha hok
  rw [← List.getD_append _ (f.firstMark p) _ _ hj]
  exact hl.word_eq j (by simp only [List.length_append]; omega)

theorem startUp_mark {i : Nat} (hi : i < 3) :
    s.word (2 * (f.globals.length : Int) + 2 * (i : Int)) = (f.firstMark p).getD i 0#16 := by
  obtain ⟨u, hl, _, _, rfl⟩ := startUp_ok ha hok
  have hw := hl.word_eq (f.globals.length + i) (by simpa using hi)
  rwa [List.getD_append_right _ _ _ _ (Nat.le_add_right _ _), Nat.add_sub_cancel_left, Int.natCast_add,
    Int.mul_add] at hw

theorem startUp_zeros {a : Int} (h : 2 * (f.globals.length : Int) + 6 ≤ a) : s.byte a = 0#8 := by
  obtain ⟨u, hl, _, _, rfl⟩ := startUp_ok ha hok
  exact hl.zero_above a (by simp only [List.length_append, List.length_cons, List.length_nil]; omega)

end

/-- Settles O60: what the start-up lays out, read back, and the registers it sets. -/
theorem startStateOfAProgram : Obligations.StartStateOfAProgram := by
  intro f p s hstart hrun
  obtain ⟨ha, hok⟩ := LoadFile.start_running hstart hrun
  have hrest := startUp_rest ha hok
  have hsound := startUp_sound ha hok
  have hlb := startUp_lbI ha hok
  have hparams : s.params = p := congrArg State.params hrest
  have hmaxdata : (f.blank p).maxdata = s.maxdata := congrArg (fun q : Params => (q.maxdata : Int)) hparams.symm
  have hmaxcode : (f.blank p).maxcode = s.maxcode := congrArg (fun q : Params => (q.maxcode : Int)) hparams.symm
  have hcode : s.code = (f.blank p).code := by rw [hrest]
  have hmark : ∀ i : Nat, i < 3 → s.word (s.lbI - 6 + 2 * (i : Int)) = (f.firstMark p).getD i 0#16 := fun i hi => by
    rw [hlb, Int.add_sub_cancel]
    exact startUp_mark ha hok hi
  have hmark0 : s.lbI - 6 = s.lbI - 6 + 2 * (0 : Nat) := by omega
  have hmark1 : s.lbI - 4 = s.lbI - 6 + 2 * (1 : Nat) := by omega
  have hmark2 : s.lbI - 2 = s.lbI - 6 + 2 * (2 : Nat) := by omega
  have hhp : s.hpI = s.maxdata + 1 := by
    have hbounds := hsound.maxdata_bounds
    have hreg : s.hpI = adr (u16 ((f.blank p).maxdata + 1)) := congrArg State.hpI hrest
    rw [← hmaxdata] at hbounds ⊢
    have h0 : 0 ≤ (f.blank p).maxdata := Int.natCast_nonneg _
    rw [hreg, adr_u16 (by omega) (by omega)]
  refine ⟨(State.inv_iff s).2 ⟨hsound, congrArg State.pending hrest⟩, ?_, hhp, congrArg State.pd hrest,
    congrArg State.header hrest, hparams, congrArg State.normalmap hrest, congrArg State.uerrorlb hrest,
    congrArg State.uerrorproc hrest, congrArg State.saved hrest, congrArg State.sigmap hrest,
    startUp_global ha hok (Nat.succ_pos _), ?_, ?_, ?_, startUp_pcI ha hok, hlb, fun j => startUp_global ha hok,
    fun a h => startUp_zeros ha hok (hlb ▸ h), ?_⟩
  · rw [startUp_spI ha hok, hlb]
    omega
  · rw [hmark0, ← hmaxdata]
    exact hmark 0 (by decide)
  · rw [hmark1, ← hmaxdata]
    exact hmark 1 (by decide)
  · rw [hmark2, ← hmaxcode]
    exact hmark 2 (by decide)
  · rw [hcode]
    exact LoadFile.read_code ha

end Sys2Proof.Machine
end

section
/-! The table of R112 line by line, and the two opcode maps made of it (R104 to R106, R110, R111, R115). -/

namespace Sys2Proof

/-! ## The lines of the table (R106, R112) -/

/-- The operands of a line, after the scaling of R106. -/
def Row.okOperand (r : Row) (k : Int) : Bool :=
  if r.has .x then okX k else if r.has .y then okY k else okM k

theorem Row.unscale_scale (r : Row) (raw : Int) : r.unscale (r.scale raw) = raw := by
  unfold Row.unscale Row.scale
  split_ifs <;> omega

theorem Row.unscale_zero (r : Row) : r.unscale 0 = 0 := by
  unfold Row.unscale
  split_ifs <;> rfl

theorem Row.okOperand_scale (r : Row) {raw : Int} (h : okM raw = true) : r.okOperand (r.scale raw) = true := by
  simp only [okM, Bool.and_eq_true, decide_eq_true_eq] at h
  unfold Row.okOperand Row.scale
  split_ifs
  · simp only [okX, Bool.and_eq_true, decide_eq_true_eq]
    omega
  · rfl
  · simp only [okY, okX, Bool.or_eq_true, Bool.and_eq_true, decide_eq_true_eq]
    omega
  · simpa only [okM, Bool.and_eq_true, decide_eq_true_eq] using h

theorem Row.okM_unscale (r : Row) {k : Int} (h : r.okOperand k = true) : okM (r.unscale k) = true := by
  unfold Row.okOperand at h
  unfold Row.unscale
  split_ifs at h ⊢ <;>
    simp only [okM, okX, okY, Bool.or_eq_true, Bool.and_eq_true, decide_eq_true_eq] at h ⊢ <;> omega

/-- What a line builds has the line's number, and the operand and the well-formedness that its flags say. -/
def Row.Describes (r : Row) : Prop :=
  ∀ raw : Int, (r.build raw).line = r.number ∧ (r.build raw).operand = (if r.has .z then 0 else r.scale raw) ∧
    (r.build raw).wf = (r.has .z || r.okOperand (r.scale raw))

theorem table_describes : ∀ r ∈ table, r.Describes := by
  rw [← List.forall_iff_forall_mem]
  and_intros
  all_goals exact fun _ => ⟨rfl, rfl, rfl⟩

/-- Looking up a line by its number finds it. -/
theorem table_find_number : ∀ r ∈ table, table.find? (fun q => q.number == r.number) = some r := by
  rw [← List.forall_iff_forall_mem]
  and_intros
  all_goals rfl

/-! ## The opcodes of a line (R105) -/

/-- A line's opcodes are bytes, its shorties give operands of 16 bits, and within one map its long form, its shorties
and its minis are apart. -/
def Row.wellPlaced (r : Row) : Bool :=
  decide (r.obase < 256) && decide (r.sbase + r.nshort ≤ 256) && decide (r.mbase + r.nminis ≤ 256)
    && decide (r.nshort ≤ 128)
    && (r.has .l != r.has .s || (decide (r.obase < r.sbase) || decide (r.sbase + r.nshort ≤ r.obase)))
    && ((r.has .c || (r.has .l || (decide (r.obase < r.mbase) || decide (r.mbase + r.nminis ≤ r.obase))))
      && (r.has .c || (r.has .s || (decide (r.sbase + r.nshort ≤ r.mbase) || decide (r.mbase + r.nminis ≤ r.sbase)))))

theorem table_wellPlaced : ∀ r ∈ table, r.wellPlaced = true := by
  rw [← List.forall_iff_forall_mem]
  and_intros
  all_goals rfl

/-- The entry a line has in the secondary or in the primary map. -/
def Row.entry (r : Row) (secondary : Bool) (op : Nat) : Option Entry :=
  if secondary then r.secondary op else r.primary op

/-- The forms a line puts at an opcode of the secondary or of the primary map: all its minis are primary, and those of
CAL are not in the map (R105, R107). -/
inductive Row.Places (r : Row) (secondary : Bool) (op : Nat) : Entry → Prop
  | z (hz : r.has .z = true) (hs : r.has .s = secondary) (hop : op = r.obase) : r.Places secondary op (.z r)
  | long (hz : r.has .z = false) (hl : r.has .l = secondary) (hop : op = r.obase) : r.Places secondary op (.long r)
  | short (hz : r.has .z = false) (hs : r.has .s = secondary) {j : Nat} (hj : j < r.nshort) (hop : op = r.sbase + j) :
      r.Places secondary op (.short r j)
  | mini (hz : r.has .z = false) (hc : r.has .c = false) (hp : secondary = false) {j : Nat} (hj : j < r.nminis)
      (hop : op = r.mbase + j) : r.Places secondary op (.mini r (j + r.firstMini))

/-- A line's entries in both maps, told apart by its flags `s` and `l` (R105). -/
theorem Row.entry_eq (r : Row) (secondary : Bool) (op : Nat) :
    r.entry secondary op =
      if r.has .z then (if r.has .s = secondary ∧ op = r.obase then some (.z r) else none)
      else if r.has .l = secondary ∧ op = r.obase then some (.long r)
      else if r.has .s = secondary ∧ r.sbase ≤ op ∧ op < r.sbase + r.nshort then some (.short r (op - r.sbase))
      else if secondary = false ∧ r.has .c = false ∧ r.mbase ≤ op ∧ op < r.mbase + r.nminis then
        some (.mini r (op - r.mbase + r.firstMini))
      else none := by
  cases secondary <;> simp [Row.entry, Row.primary, Row.secondary, and_assoc]

theorem Row.places_of_entry {r : Row} {secondary : Bool} {op : Nat} {e : Entry}
    (h : r.entry secondary op = some e) : r.Places secondary op e := by
  rw [Row.entry_eq] at h
  split_ifs at h with hz hform hlong hshort hmini
  all_goals cases h
  · exact .z hz hform.1 hform.2
  · exact .long (eq_false_of_ne_true hz) hlong.1 hlong.2
  · obtain ⟨hs, hlow, hhigh⟩ := hshort
    exact .short (eq_false_of_ne_true hz) hs (by omega) (by omega)
  · obtain ⟨hp, hc, hlow, hhigh⟩ := hmini
    exact .mini (eq_false_of_ne_true hz) hc hp (by omega) (by omega)

/-- In a line that is well placed no form hides another one. -/
theorem Row.entry_of_places {r : Row} (hr : r.wellPlaced = true) {secondary : Bool} {op : Nat} {e : Entry}
    (h : r.Places secondary op e) : r.entry secondary op = some e := by
  simp only [Row.wellPlaced, Bool.and_eq_true, Bool.or_eq_true, decide_eq_true_eq, bne_iff_ne] at hr
  obtain ⟨⟨_, hls⟩, hlm, hsm⟩ := hr
  rw [Row.entry_eq]
  cases h with
  | z hz hs hop => rw [if_pos hz, if_pos ⟨hs, hop⟩]
  | long hz hl hop => rw [hz, if_neg Bool.false_ne_true, if_pos ⟨hl, hop⟩]
  | @short hz hs j hj hop =>
    have hnl : ¬(r.has .l = secondary ∧ op = r.obase) := fun ⟨hl, hb⟩ => by
      have := hls.resolve_left fun hne => hne (hl.trans hs.symm)
      omega
    rw [hz, if_neg Bool.false_ne_true, if_neg hnl, if_pos ⟨hs, by omega, by omega⟩, hop, Nat.add_sub_cancel_left]
  | @mini hz hc hp j hj hop =>
    subst hp
    have hnl : ¬(r.has .l = false ∧ op = r.obase) := fun ⟨hl, hb⟩ => by
      simp only [hc, hl, Bool.false_eq_true, false_or] at hlm
      omega
    have hns : ¬(r.has .s = false ∧ r.sbase ≤ op ∧ op < r.sbase + r.nshort) := fun ⟨hs, hlow, hhigh⟩ => by
      simp only [hc, hs, Bool.false_eq_true, false_or] at hsm
      omega
    rw [hz, if_neg Bool.false_ne_true, if_neg hnl, if_neg hns, if_pos ⟨rfl, hc, by omega, by omega⟩, hop,
      Nat.add_sub_cancel_left]

/-- Only the lines with flag `s` or `l` have escaped forms. -/
theorem Row.has_of_places_secondary {r : Row} {op : Nat} {e : Entry} (h : r.Places true op e) :
    (r.has .s || r.has .l) = true := by
  cases h with
  | z _ hs | short _ hs => rw [hs, Bool.true_or]
  | long _ hl => rw [hl, Bool.or_true]
  | mini _ _ hp => cases hp

/-- The opcodes a line has in the secondary or in the primary map. -/
def Row.opcodes (secondary : Bool) (r : Row) : List Nat :=
  if r.has .z then (if r.has .s == secondary then [r.obase] else [])
  else (if r.has .l == secondary then [r.obase] else []) ++
    (if r.has .s == secondary then List.range' r.sbase r.nshort else []) ++
    (if secondary || r.has .c then [] else List.range' r.mbase r.nminis)

/-- Both sides ask the same of the line and the opcode, form by form. -/
theorem Row.mem_opcodes {r : Row} {secondary : Bool} {op : Nat} :
    op ∈ r.opcodes secondary ↔ ∃ e, r.entry secondary op = some e := by
  rw [Row.entry_eq, ← Option.isSome_iff_exists]
  unfold Row.opcodes
  split_ifs <;> simp <;> grind

/-! ## The opcode maps (R110, R111, R115) -/

/-- The secondary or the primary opcode map. -/
def mapEntry (secondary : Bool) (op : Byte) : Option Entry := if secondary then secondaryEntry op else primaryEntry op

theorem mapEntry_eq_findSome (secondary : Bool) (op : Byte) :
    mapEntry secondary op = table.findSome? (fun r => r.entry secondary op.toNat) := by
  cases secondary <;> rfl

theorem exists_entry_of_mapEntry {secondary : Bool} {op : Byte} {e : Entry} (h : mapEntry secondary op = some e) :
    ∃ r ∈ table, r.entry secondary op.toNat = some e :=
  List.exists_of_findSome?_eq_some ((mapEntry_eq_findSome secondary op).symm.trans h)

theorem mapEntry_isSome_iff (secondary : Bool) (op : Byte) :
    (mapEntry secondary op).isSome = true ↔ op.toNat ∈ table.flatMap (Row.opcodes secondary) := by
  rw [mapEntry_eq_findSome, List.findSome?_isSome_iff]
  simp only [List.mem_flatMap, Row.mem_opcodes, Option.isSome_iff_exists]

theorem primary_opcodes_length : (table.flatMap (Row.opcodes false)).length = 255 := by
  simp only [table, List.length_flatMap, List.map_append, List.sum_append]
  rfl

/-- All 255 opcodes but the escape byte are assigned, and the lines have 255 primary opcodes together: none is assigned
twice (R110). -/
theorem primary_opcodes_nodup : (table.flatMap (Row.opcodes false)).Nodup := by
  have hsub : List.range' 1 255 ⊆ table.flatMap (Row.opcodes false) := fun n hn => by
    obtain ⟨hpos, hlt⟩ := List.mem_range'_1.1 hn
    have hnat : (BitVec.ofNat 8 n).toNat = n := Nat.mod_eq_of_lt (by omega)
    have hne : BitVec.ofNat 8 n ≠ 0#8 := fun h0 => by
      have := congrArg BitVec.toNat h0
      rw [hnat] at this
      exact absurd this (Nat.ne_of_gt hpos)
    have hsome := (mapEntry_isSome_iff false (BitVec.ofNat 8 n)).1
      ((Machine.primaryEntry_isSome _).trans (decide_eq_true hne))
    rwa [hnat] at hsome
  have hperm := (List.subperm_of_subset (List.nodup_range' (step := 1)) hsub).perm_of_length_le
    (by rw [primary_opcodes_length, List.length_range'])
  exact hperm.nodup_iff.1 (List.nodup_range' (step := 1))

/-- The lines have every assigned escaped opcode once (R111, R115). -/
theorem secondary_opcodes_perm :
    (table.flatMap (Row.opcodes true)).Perm ((List.range 256).filter fun n => !unassigned (BitVec.ofNat 8 n)) := by
  decide

theorem opcodes_nodup (secondary : Bool) : (table.flatMap (Row.opcodes secondary)).Nodup := by
  cases secondary with
  | false => exact primary_opcodes_nodup
  | true => exact secondary_opcodes_perm.nodup_iff.2 (List.nodup_range.filter _)

/-- An opcode of a map belongs to one line. -/
theorem row_unique_of_opcode {secondary : Bool} {op : Nat} {r q : Row} (hr : r ∈ table) (hq : q ∈ table)
    (hre : op ∈ r.opcodes secondary) (hqe : op ∈ q.opcodes secondary) : r = q := by
  by_contra hne
  have : Std.Symm (Function.onFun List.Disjoint (Row.opcodes secondary)) := ⟨fun _ _ h => h.symm⟩
  exact (List.nodup_flatMap.1 (opcodes_nodup secondary)).2.forall hr hq hne hre hqe

/-- What a line puts at an opcode of a map is what the map has there. -/
theorem mapEntry_of_entry {secondary : Bool} {op : Byte} {e : Entry} {r : Row} (hr : r ∈ table)
    (he : r.entry secondary op.toNat = some e) : mapEntry secondary op = some e := by
  have hop : op.toNat ∈ r.opcodes secondary := Row.mem_opcodes.2 ⟨e, he⟩
  obtain ⟨f, hf⟩ := Option.isSome_iff_exists.1
    ((mapEntry_isSome_iff secondary op).2 (List.mem_flatMap.2 ⟨r, hr, hop⟩))
  obtain ⟨q, hq, hqf⟩ := exists_entry_of_mapEntry hf
  obtain rfl := row_unique_of_opcode hr hq hop (Row.mem_opcodes.2 ⟨f, hqf⟩)
  rw [hf, ← hqf, he]

theorem secondaryEntry_isNone (op : Byte) : (secondaryEntry op).isNone = unassigned op := by
  have hmem : op.toNat ∈ table.flatMap (Row.opcodes true) ↔ unassigned op = false := by
    simp [secondary_opcodes_perm.mem_iff, op.isLt]
  have hsome : (secondaryEntry op).isSome = true ↔ unassigned op = false := (mapEntry_isSome_iff true op).trans hmem
  rw [← Option.not_isSome, Bool.eq_iff_iff, Bool.not_eq_true', ← Bool.not_eq_true, hsome, Bool.not_eq_false]

/-! ## From an instruction to its line and back (R106, R112, R117) -/

open Laws.RowOf in
/-- The lines of all instructions, put together. -/
theorem rowOf_all (i : Instr) : Statement i :=
  match i with
  | .aar k => aar k | .aas => aas | .add => add | .adi k => adi k | .and k => and k | .ans => ans | .beg k => beg k
  | .beq k => beq k | .bes => bes | .bge k => bge k | .bgt k => bgt k | .ble k => ble k | .blm k => blm k
  | .bls => bls | .blt k => blt k | .bne k => bne k | .brb k => brb k | .brf k => brf k | .cal k => cal k
  | .cas => cas | .cdi => cdi | .cdf => cdf | .cfd => cfd | .cfi => cfi | .cid => cid | .cif => cif | .cmd => cmd
  | .cmf => cmf | .cmi => cmi | .cmp => cmp | .cms => cms | .cmu k => cmu k | .com k => com k | .cos => cos
  | .csa => csa | .csb => csb | .dad => dad | .ddv => ddv | .dec => dec | .dee k => dee k | .del k => del k
  | .div => div | .dmd => dmd | .dmu => dmu | .dsb => dsb | .dup k => dup k | .dus => dus | .exg => exg | .fad => fad
  | .fdv => fdv | .fef => fef | .fif => fif | .fmu => fmu | .fsb => fsb | .hlt => hlt | .inc => inc | .ine k => ine k
  | .inl k => inl k | .inn k => inn k | .ins => ins | .ior k => ior k | .ios => ios | .lae k => lae k
  | .lai k => lai k | .lal k => lal k | .lar k => lar k | .las => las | .lde k => lde k | .ldf k => ldf k
  | .ldl k => ldl k | .lex k => lex k | .lin k => lin k | .lnc k => lnc k | .lni => lni | .loc k => loc k
  | .loe k => loe k | .lof k => lof k | .loi k => loi k | .lol k => lol k | .lop k => lop k | .lor k => lor k
  | .los => los | .lsa k => lsa k | .mod => mod | .mon => mon | .mrk k => mrk k | .mrs => mrs | .mrx k => mrx k
  | .mul => mul | .mxs => mxs | .neg => neg | .nop => nop | .pad => pad | .psb => psb | .rck k => rck k | .rcs => rcs
  | .res => res | .ret k => ret k | .rol => rol | .ror => ror | .rtt => rtt | .sai k => sai k | .sar k => sar k
  | .sas => sas | .sde k => sde k | .sdf k => sdf k | .sdl k => sdl k | .ses => ses | .xset k => xset k | .shl => shl
  | .shr => shr | .sig => sig | .ste k => ste k | .stf k => stf k | .sti k => sti k | .stl k => stl k
  | .stp k => stp k | .str k => str k | .sts => sts | .sub => sub | .teq => teq | .tge => tge | .tgt => tgt
  | .tle => tle | .tlt => tlt | .tne => tne | .trp => trp | .xor k => xor k | .xos => xos | .zeq k => zeq k
  | .zge k => zge k | .zgt k => zgt k | .zle k => zle k | .zlt k => zlt k | .zne k => zne k | .zre k => zre k
  | .zrl k => zrl k | .escape => escape | .illegal op => illegal op

/-- The raw operands of a line: 16 bits; a line without operand is given 0. -/
def Row.okRaw (r : Row) (raw : Int) : Prop := okM raw = true ∧ (r.has .z = true → raw = 0)

/-- A well-formed instruction is one of the two without a line, or its line builds it from a raw operand. -/
theorem Instr.row_cases {i : Instr} (hwf : i.wf = true) : i = .escape ∨ (∃ op, i = .illegal op) ∨
    ∃ r ∈ table, i.row = some r ∧ r.okRaw (r.unscale i.operand) ∧ r.build (r.unscale i.operand) = i := by
  have hrow := rowOf_all i hwf
  split at hrow
  · next r hr =>
    obtain ⟨_, hbuild⟩ := hrow
    have hmem : r ∈ table := List.mem_of_find?_eq_some hr
    obtain ⟨_, hoper, hok⟩ := table_describes r hmem (r.unscale i.operand)
    rw [hbuild] at hoper hok
    refine .inr (.inr ⟨r, hmem, hr, ?_, hbuild⟩)
    cases hz : r.has .z with
    | true =>
      rw [hz, if_pos rfl] at hoper
      rw [hoper, Row.unscale_zero]
      exact ⟨rfl, fun _ => rfl⟩
    | false =>
      rw [hz, if_neg Bool.false_ne_true] at hoper
      rw [hwf, hz, Bool.false_or, ← hoper] at hok
      exact ⟨r.okM_unscale hok.symm, fun h => absurd (hz.symm.trans h) Bool.false_ne_true⟩
  · exact hrow.imp_right .inl

/-- What a line builds from a raw operand is a well-formed instruction with that line and operand. -/
theorem Row.build_spec {r : Row} (hr : r ∈ table) {raw : Int} (hraw : r.okRaw raw) :
    (r.build raw).wf = true ∧ (r.build raw).row = some r ∧ r.unscale (r.build raw).operand = raw := by
  obtain ⟨hok, hz0⟩ := hraw
  obtain ⟨hline, hoper, hwf⟩ := table_describes r hr raw
  refine ⟨?_, ?_, ?_⟩
  · rw [hwf, r.okOperand_scale hok, Bool.or_true]
  · rw [Instr.row, hline, table_find_number r hr]
  · rw [hoper]
    split
    · next hz => rw [hz0 hz, Row.unscale_zero]
    · exact r.unscale_scale raw

theorem encodings_of_row {i : Instr} {r : Row} (h : i.row = some r) (normal : Bool) :
    encodings normal i = r.encodings normal i.operand := by
  unfold encodings
  split
  · cases (show none = some r from h)
  · cases (show none = some r from h)
  · simp only [h]

end Sys2Proof
end

section
/-! Encoder and decoder agree line by line: both are what the entries of the opcode maps make of a raw operand (R101 to
R107). -/

namespace Sys2Proof

/-! ## Bytes (R104) -/

theorem toNat_byteOf {n : Int} (h0 : 0 ≤ n) (h1 : n < 256) : ((byteOf n).toNat : Int) = n := by
  unfold byteOf
  rw [BitVec.toNat_ofInt]
  omega

theorem byteOf_toNat (b : Byte) : byteOf b.toNat = b := by
  simp [byteOf]

theorem byteOf_of_toNat_eq {op : Byte} {n : Nat} (h : op.toNat = n) : byteOf n = op := by
  rw [← h, byteOf_toNat]

theorem toNat_byteOf_nat {n : Nat} (h : n < 256) : (byteOf n).toNat = n := by
  have := toNat_byteOf (n := n) (by omega) (by omega)
  omega

theorem byteOf_emod (n : Int) : byteOf (n % 256) = byteOf n := by
  apply BitVec.eq_of_toNat_eq
  unfold byteOf
  rw [BitVec.toNat_ofInt, BitVec.toNat_ofInt]
  omega

/-- The low byte of a number. -/
theorem toNat_byteOf_emod (n : Int) : ((byteOf n).toNat : Int) = n % 256 := by
  rw [← byteOf_emod, toNat_byteOf (by omega) (by omega)]

theorem okM_sext16 (hi lo : Byte) : okM (sext16 hi lo) = true := by
  have := hi.isLt
  have := lo.isLt
  unfold sext16
  split <;>
    · simp only [okM, Bool.and_eq_true, decide_eq_true_eq]
      omega

/-- The two bytes of a long operand are read back (R104). -/
theorem sext16_byteOf {raw : Int} (h : okM raw = true) : sext16 (byteOf (raw / 256)) (byteOf raw) = raw := by
  simp only [okM, Bool.and_eq_true, decide_eq_true_eq] at h
  have hhi := toNat_byteOf_emod (raw / 256)
  have hlo := toNat_byteOf_emod raw
  unfold sext16
  split <;> omega

theorem byteOf_sext16 (hi lo : Byte) :
    byteOf (sext16 hi lo / 256) = hi ∧ byteOf (sext16 hi lo) = lo := by
  have := hi.isLt
  have := lo.isLt
  have hhi := toNat_byteOf_emod (sext16 hi lo / 256)
  have hlo := toNat_byteOf_emod (sext16 hi lo)
  have hval : ∃ k : Int, sext16 hi lo = 256 * (hi.toNat - 256 * k) + lo.toNat := by
    unfold sext16
    split
    · exact ⟨1, by omega⟩
    · exact ⟨0, by omega⟩
  obtain ⟨k, hk⟩ := hval
  constructor <;> apply BitVec.eq_of_toNat_eq <;> omega

/-! ## Entries of a map (R102, R104) -/

/-- The line of an entry. -/
def Entry.row : Entry → Row
  | .z r | .mini r _ | .short r _ | .long r => r

/-- The raw operand an entry gives with these operand bytes behind the opcode (R104). -/
inductive Entry.Takes : Entry → Int → List Byte → Prop
  | z (r : Row) : Entry.Takes (.z r) 0 []
  | mini (r : Row) (implicit : Nat) : Entry.Takes (.mini r implicit) implicit []
  | short (r : Row) (high : Nat) (b : Byte) : Entry.Takes (.short r high) (256 * (high : Int) + b.toNat) [b]
  | long (r : Row) (hi lo : Byte) : Entry.Takes (.long r) (sext16 hi lo) [hi, lo]

theorem Entry.decode_of_takes {e : Entry} {raw : Int} {ops : List Byte} (h : e.Takes raw ops) (n : Nat)
    (rest : List Byte) : e.decode n (ops ++ rest) = .instr (e.row.build raw) (n + ops.length) := by
  cases h <;> rfl

theorem Entry.takes_of_decode {e : Entry} {n m : Nat} {bs : List Byte} {i : Instr} (h : e.decode n bs = .instr i m) :
    ∃ raw ops rest, e.Takes raw ops ∧ bs = ops ++ rest ∧ i = e.row.build raw ∧ m = n + ops.length := by
  cases e with
  | z r =>
    cases h
    exact ⟨0, [], bs, .z r, rfl, rfl, rfl⟩
  | mini r implicit =>
    cases h
    exact ⟨implicit, [], bs, .mini r implicit, rfl, rfl, rfl⟩
  | short r high =>
    match bs with
    | [] => cases h
    | b :: rest =>
      cases h
      exact ⟨_, [b], rest, .short r high b, rfl, rfl, rfl⟩
  | long r =>
    match bs with
    | [] | [_] => cases h
    | hi :: lo :: rest =>
      cases h
      exact ⟨_, [hi, lo], rest, .long r hi lo, rfl, rfl, rfl⟩

theorem Entry.row_of_places {r : Row} {secondary : Bool} {op : Nat} {e : Entry} (h : r.Places secondary op e) :
    e.row = r := by
  cases h <;> rfl

/-- Every raw operand of a line that is well placed has 16 bits. -/
theorem Entry.okRaw_of_takes {r : Row} (hr : r.wellPlaced = true) {secondary : Bool} {op : Byte} {e : Entry}
    (h : r.Places secondary op.toNat e) {raw : Int} {ops : List Byte} (ht : e.Takes raw ops) : r.okRaw raw := by
  simp only [Row.wellPlaced, Bool.and_eq_true, decide_eq_true_eq] at hr
  obtain ⟨⟨⟨_, hnshort⟩, _⟩, _⟩ := hr
  have := op.isLt
  have hoperand : r.has .z = false → r.has .z = true → raw = 0 := fun hz h => by rw [hz] at h; cases h
  have hsmall : 0 ≤ raw → raw ≤ 32767 → okM raw = true := fun h0 h1 => by
    simp only [okM, Bool.and_eq_true, decide_eq_true_eq]
    omega
  cases ht with
  | z => exact ⟨rfl, fun _ => rfl⟩
  | mini =>
    cases h with
    | mini hz _ _ hj hop =>
      have hfirst : r.firstMini ≤ 1 := by
        unfold Row.firstMini
        split <;> decide
      exact ⟨hsmall (by omega) (by omega), hoperand hz⟩
  | short _ _ b =>
    cases h with
    | short hz _ hj _ =>
      have := b.isLt
      exact ⟨hsmall (by omega) (by omega), hoperand hz⟩
  | long _ hi lo =>
    cases h with
    | long hz _ _ => exact ⟨okM_sext16 hi lo, hoperand hz⟩

/-! ## The encodings of a line in the normal context -/

/-- Bytes that are a line's entry at an opcode of a map, with what that entry takes as a raw operand. -/
def Row.Encodes (r : Row) (raw : Int) (bs : List Byte) : Prop :=
  ∃ (secondary : Bool) (op : Byte) (e : Entry) (ops : List Byte), r.Places secondary op.toNat e ∧ e.Takes raw ops ∧
    bs = escaped secondary (op :: ops)

/-- In the normal context the encoder lists the mini, the shortie and the long form, and CAL has no mini (R107). -/
theorem Row.encodings_true (r : Row) (k : Int) :
    r.encodings true k = if r.has .z then [escaped (r.has .s) [byteOf r.obase]]
      else (if r.has .c then [] else r.minis (r.unscale k)) ++ (r.shorties (r.unscale k) ++ r.longs (r.unscale k)) := by
  simp [Row.encodings]

theorem Row.mem_encodings_true (r : Row) (k : Int) (bs : List Byte) :
    bs ∈ r.encodings true k ↔
      r.has .z = true ∧ bs = escaped (r.has .s) [byteOf r.obase] ∨
      r.has .z = false ∧ (r.has .c = false ∧ bs ∈ r.minis (r.unscale k) ∨ bs ∈ r.shorties (r.unscale k) ∨
        bs ∈ r.longs (r.unscale k)) := by
  rw [Row.encodings_true]
  cases r.has .z with
  | true => simp
  | false => cases r.has .c <;> simp

theorem Row.mem_minis (r : Row) (raw : Int) (bs : List Byte) :
    bs ∈ r.minis raw ↔ ∃ j : Nat, j < r.nminis ∧ raw = (j + r.firstMini : Nat) ∧ bs = [byteOf (r.mbase + j : Nat)] := by
  unfold Row.minis
  split
  · next h =>
    simp only [Bool.and_eq_true, decide_eq_true_eq] at h
    rw [List.mem_singleton]
    constructor
    · rintro rfl
      exact ⟨(raw - r.firstMini).toNat, by omega, by omega, by congr 2; omega⟩
    · rintro ⟨j, _, rfl, rfl⟩
      congr 2
      omega
  · next h =>
    simp only [Bool.and_eq_true, decide_eq_true_eq] at h
    simp only [List.not_mem_nil, false_iff]
    rintro ⟨j, hj, rfl, _⟩
    omega

theorem Row.mem_shorties (r : Row) (raw : Int) (bs : List Byte) :
    bs ∈ r.shorties raw ↔ ∃ (j : Nat) (b : Byte), j < r.nshort ∧ raw = 256 * (j : Int) + b.toNat ∧
      bs = escaped (r.has .s) [byteOf (r.sbase + j : Nat), b] := by
  have hlow := toNat_byteOf_emod raw
  unfold Row.shorties
  split
  · next h =>
    simp only [Bool.and_eq_true, decide_eq_true_eq] at h
    rw [List.mem_singleton]
    constructor
    · rintro rfl
      exact ⟨(raw / 256).toNat, byteOf raw, by omega, by omega, by congr 3; omega⟩
    · rintro ⟨j, b, _, rfl, rfl⟩
      have := b.isLt
      have hhigh : (256 * (j : Int) + b.toNat) / 256 = j := by omega
      have hbyte : (256 * (j : Int) + b.toNat) % 256 = b.toNat := by omega
      rw [hhigh, ← byteOf_emod (256 * _ + _), hbyte, byteOf_toNat, Nat.cast_add]
  · next h =>
    simp only [Bool.and_eq_true, decide_eq_true_eq] at h
    simp only [List.not_mem_nil, false_iff]
    rintro ⟨j, b, hj, rfl, _⟩
    have := b.isLt
    omega

theorem Row.mem_longs (r : Row) {raw : Int} (hraw : okM raw = true) (bs : List Byte) :
    bs ∈ r.longs raw ↔ ∃ hi lo, raw = sext16 hi lo ∧ bs = escaped (r.has .l) [byteOf r.obase, hi, lo] := by
  unfold Row.longs
  rw [List.mem_singleton]
  constructor
  · rintro rfl
    exact ⟨_, _, (sext16_byteOf hraw).symm, rfl⟩
  · rintro ⟨hi, lo, rfl, rfl⟩
    obtain ⟨hhi, hlo⟩ := byteOf_sext16 hi lo
    rw [hhi, hlo]

/-- Encoder and opcode maps agree on a line. -/
theorem Row.mem_encodings_iff {r : Row} (hr : r.wellPlaced = true) {k : Int} (hk : r.okRaw (r.unscale k))
    (bs : List Byte) : bs ∈ r.encodings true k ↔ r.Encodes (r.unscale k) bs := by
  obtain ⟨hok, hz0⟩ := hk
  rw [Row.mem_encodings_true, Row.mem_minis, Row.mem_shorties, Row.mem_longs r hok]
  generalize r.unscale k = raw at hok hz0
  simp only [Row.wellPlaced, Bool.and_eq_true, decide_eq_true_eq] at hr
  obtain ⟨⟨⟨⟨⟨hobase, hshort⟩, hmini⟩, _⟩, _⟩, _⟩ := hr
  constructor
  · rintro (⟨hz, rfl⟩ | ⟨hz, ⟨hc, j, hj, rfl, rfl⟩ | ⟨j, b, hj, rfl, rfl⟩ | ⟨hi, lo, rfl, rfl⟩⟩)
    · rw [hz0 hz]
      exact ⟨_, _, _, [], .z hz rfl (toNat_byteOf_nat hobase), .z r, rfl⟩
    · exact ⟨false, _, _, [], .mini hz hc rfl hj (toNat_byteOf_nat (by omega)), .mini r _, rfl⟩
    · exact ⟨_, _, _, [b], .short hz rfl hj (toNat_byteOf_nat (by omega)), .short r j b, rfl⟩
    · exact ⟨_, _, _, [hi, lo], .long hz rfl (toNat_byteOf_nat hobase), .long r hi lo, rfl⟩
  · rintro ⟨secondary, op, e, ops, hp, ht, rfl⟩
    cases hp with
    | z hz hs hop =>
      cases ht
      exact .inl ⟨hz, by rw [hs, byteOf_of_toNat_eq hop]⟩
    | long hz hl hop =>
      cases ht with
      | long _ hi lo => exact .inr ⟨hz, .inr (.inr ⟨hi, lo, rfl, by rw [hl, byteOf_of_toNat_eq hop]⟩)⟩
    | @short hz hs j hj hop =>
      cases ht with
      | short _ _ b => exact .inr ⟨hz, .inr (.inl ⟨j, b, hj, rfl, by rw [hs, byteOf_of_toNat_eq hop]⟩)⟩
    | @mini hz hc hp j hj hop =>
      cases ht
      exact .inr ⟨hz, .inl ⟨hc, j, hj, rfl, by rw [hp, byteOf_of_toNat_eq hop]; rfl⟩⟩

/-! ## Decoding an encoding, and back, in the normal context -/

theorem escaped_append (secondary : Bool) (bs rest : List Byte) :
    escaped secondary bs ++ rest = escaped secondary (bs ++ rest) := by
  cases secondary <;> rfl

theorem length_escaped_cons (secondary : Bool) (op : Byte) (ops : List Byte) :
    (escaped secondary (op :: ops)).length = (if secondary then 2 else 1) + ops.length := by
  cases secondary <;> simp only [escaped, List.length_cons, if_true, Bool.false_eq_true, if_false] <;> omega

theorem decode_true_escaped {secondary : Bool} {op : Byte} {e : Entry} (he : mapEntry secondary op = some e)
    (rest : List Byte) : decode true (escaped secondary (op :: rest)) = e.decode (if secondary then 2 else 1) rest := by
  cases secondary with
  | true => exact Machine.decodeEscaped_of_some he rest
  | false =>
    have he : primaryEntry op = some e := he
    have hne : op ≠ 0 := fun h0 => by
      have := Machine.primaryEntry_isSome op
      rw [he, h0] at this
      cases this
    simp only [escaped, decode, Bool.true_or, Bool.false_eq_true, if_true, if_false, hne, he]

/-- The bytes a line puts for a raw operand decode to what the line builds from it, whatever follows. -/
theorem decode_of_encodes {r : Row} (hr : r ∈ table) {raw : Int} {bs : List Byte} (h : r.Encodes raw bs)
    (rest : List Byte) : decode true (bs ++ rest) = .instr (r.build raw) bs.length := by
  obtain ⟨secondary, op, e, ops, hp, ht, rfl⟩ := h
  have he := mapEntry_of_entry hr (Row.entry_of_places (table_wellPlaced r hr) hp)
  rw [escaped_append, List.cons_append, decode_true_escaped he, Entry.decode_of_takes ht, Entry.row_of_places hp,
    length_escaped_cons]

/-- What an instruction decoded in the normal context is: the escape byte at the end of the bytes, an unassigned
escaped opcode, or what a line builds, the line having put the bytes. -/
inductive DecodedFrom : List Byte → Instr → Nat → Prop
  | escape : DecodedFrom [0#8] .escape 1
  | illegal (op : Byte) (rest : List Byte) (h : unassigned op = true) :
      DecodedFrom (0#8 :: op :: rest) (.illegal op) 2
  | line {r : Row} (hr : r ∈ table) {raw : Int} {bs : List Byte} (h : r.Encodes raw bs) (rest : List Byte) :
      DecodedFrom (bs ++ rest) (r.build raw) bs.length

theorem decodedFrom_of_entry {secondary : Bool} {op : Byte} {e : Entry} (he : mapEntry secondary op = some e)
    {rest : List Byte} {i : Instr} {n : Nat} (h : e.decode (if secondary then 2 else 1) rest = .instr i n) :
    DecodedFrom (escaped secondary (op :: rest)) i n := by
  obtain ⟨r, hr, hre⟩ := exists_entry_of_mapEntry he
  obtain ⟨raw, ops, rest, ht, rfl, rfl, rfl⟩ := Entry.takes_of_decode h
  have hp := Row.places_of_entry hre
  rw [Entry.row_of_places hp, ← length_escaped_cons secondary op, ← List.cons_append, ← escaped_append]
  exact .line hr ⟨secondary, op, e, ops, hp, ht, rfl⟩ rest

theorem decodedFrom_of_decode {bs : List Byte} {i : Instr} {n : Nat} (h : decode true bs = .instr i n) :
    DecodedFrom bs i n := by
  match bs with
  | [] => cases h
  | op :: rest =>
    by_cases hop : op = 0
    · subst hop
      change decodeEscaped rest = _ at h
      match rest with
      | [] =>
        cases h
        exact .escape
      | op :: rest =>
        cases he : secondaryEntry op with
        | none =>
          rw [Machine.decodeEscaped_of_none he] at h
          cases h
          exact .illegal op rest (by rw [← secondaryEntry_isNone, he]; rfl)
        | some e =>
          rw [Machine.decodeEscaped_of_some he] at h
          exact decodedFrom_of_entry (secondary := true) he h
    · obtain ⟨e, he⟩ := Option.isSome_iff_exists.1 ((Machine.primaryEntry_isSome op).trans (decide_eq_true hop))
      have h1 := decode_true_escaped (secondary := false) he rest
      exact decodedFrom_of_entry (secondary := false) he (h1.symm.trans h)

end Sys2Proof
end

section
/-! The statements about encodings: every encoding decodes back, and every decoding is an encoding, in both contexts
(R101 to R107, R115, R117). -/

namespace Sys2Proof

/-! ## The alternate context (R107) -/

/-- CAL's line of the table of R112. -/
def callRow : Row := rows1[18]

theorem row_cal (k : Int) : (Instr.cal k).row = some callRow := rfl

/-- Flag `c` stands in two lines, of which CAS has no operand. -/
theorem number_of_flag_c : ∀ r ∈ table, r.has .c = true → r.has .z = false → r.number = callRow.number := by
  rw [← List.forall_iff_forall_mem]
  and_intros
  all_goals decide

theorem eq_callRow {r : Row} (hr : r ∈ table) (hc : r.has .c = true) (hz : r.has .z = false) : r = callRow := by
  have hfind := table_find_number r hr
  rw [number_of_flag_c r hr hc hz] at hfind
  exact Option.some.inj (hfind.symm.trans (row_cal 0))

/-- The minis of CAL are the opcodes from the cutoff up. -/
theorem mem_minis_callRow (raw : Int) (bs : List Byte) :
    bs ∈ callRow.minis raw ↔ ∃ op : Byte, Config.cutoff ≤ op.toNat ∧ bs = [op] ∧ raw = op.toNat - Config.cutoff := by
  rw [Row.mem_minis]
  have hmbase : callRow.mbase = 134 := rfl
  have hnminis : callRow.nminis = 122 := rfl
  have hfirst : callRow.firstMini = 0 := rfl
  have hcut : Config.cutoff = 134 := rfl
  rw [hmbase, hnminis, hfirst, hcut]
  constructor
  · rintro ⟨j, hj, rfl, rfl⟩
    have hop := toNat_byteOf_nat (n := 134 + j) (by omega)
    exact ⟨_, by omega, rfl, by omega⟩
  · rintro ⟨op, hop, rfl, rfl⟩
    have := op.isLt
    exact ⟨op.toNat - 134, by omega, by omega, by rw [byteOf_of_toNat_eq (op := op) (by omega)]⟩

theorem Row.mem_encodings_false (r : Row) (k : Int) (bs : List Byte) :
    bs ∈ r.encodings false k ↔ bs ∈ r.encodings true k ∧ (bs.headD 0).toNat < Config.cutoff ∨
      r.has .z = false ∧ r.has .c = true ∧ bs ∈ r.minis (r.unscale k) := by
  rw [Row.encodings_true]
  unfold Row.encodings
  cases r.has .z with
  | true => simp
  | false =>
    cases r.has .c with
    | true => simp [or_comm, or_and_right]
    | false => simp [or_and_right]

/-- Escaped instructions are the same in both contexts (R103). -/
theorem escape_lt_cutoff : (0#8 : Byte).toNat < Config.cutoff := by decide

/-- In the alternate context an instruction has its encodings of the normal context that begin below the cutoff, and
CAL has its minis. -/
theorem mem_encodings_false {i : Instr} (hwf : i.wf = true) (bs : List Byte) :
    bs ∈ encodings false i ↔ bs ∈ encodings true i ∧ (bs.headD 0).toNat < Config.cutoff ∨
      ∃ op : Byte, Config.cutoff ≤ op.toNat ∧ bs = [op] ∧ i = .cal (op.toNat - Config.cutoff) := by
  obtain rfl | ⟨op, rfl⟩ | ⟨r, hr, hrow, _, hbuild⟩ := Instr.row_cases hwf
  · simp only [encodings, List.mem_singleton, reduceCtorEq, and_false, exists_false, or_false]
    exact ⟨fun h => ⟨h, h ▸ escape_lt_cutoff⟩, And.left⟩
  · simp only [encodings, List.mem_singleton, reduceCtorEq, and_false, exists_false, or_false]
    exact ⟨fun h => ⟨h, h ▸ escape_lt_cutoff⟩, And.left⟩
  rw [encodings_of_row hrow, encodings_of_row hrow, Row.mem_encodings_false]
  refine or_congr_right ⟨?_, ?_⟩
  · rintro ⟨hz, hc, hmem⟩
    obtain rfl := eq_callRow hr hc hz
    obtain ⟨op, hop, hbs, hraw⟩ := (mem_minis_callRow _ _).1 hmem
    exact ⟨op, hop, hbs, by rw [← hbuild, hraw]; rfl⟩
  · rintro ⟨op, hop, hbs, rfl⟩
    obtain rfl := Option.some.inj (hrow.symm.trans (row_cal _))
    exact ⟨rfl, rfl, (mem_minis_callRow _ _).2 ⟨op, hop, hbs, rfl⟩⟩

theorem decode_false_of_lt {bs : List Byte} (h : (bs.headD 0).toNat < Config.cutoff) :
    decode false bs = decode true bs := by
  cases bs with
  | nil => rfl
  | cons op rest =>
    have hlt : op.toNat < Config.cutoff := h
    simp only [decode, Bool.false_or, Bool.true_or, decide_eq_true hlt]

theorem decode_false_of_ge {op : Byte} (h : Config.cutoff ≤ op.toNat) (rest : List Byte) :
    decode false (op :: rest) = .instr (.cal (op.toNat - Config.cutoff)) 1 := by
  have hge : ¬op.toNat < Config.cutoff := Nat.not_lt.2 h
  simp only [decode, Bool.false_or, decide_eq_false hge, Bool.false_eq_true, if_false]

/-! ## Every encoding decodes back (R101 to R107) -/

theorem decode_encoding_true {i : Instr} (hwf : i.wf = true) {rest : List Byte} (hrest : i = .escape → rest = [])
    {e : List Byte} (he : e ∈ encodings true i) : decode true (e ++ rest) = .instr i e.length := by
  obtain rfl | ⟨op, rfl⟩ | ⟨r, hr, hrow, hok, hbuild⟩ := Instr.row_cases hwf
  · rw [hrest rfl, List.mem_singleton.1 he]
    rfl
  · have hnone : secondaryEntry op = none := Option.isNone_iff_eq_none.1 ((secondaryEntry_isNone op).trans hwf)
    rw [List.mem_singleton.1 he]
    exact Machine.decodeEscaped_of_none hnone rest
  rw [encodings_of_row hrow, Row.mem_encodings_iff (table_wellPlaced r hr) hok] at he
  rw [decode_of_encodes hr he, hbuild]

theorem decode_encoding {normal : Bool} {i : Instr} (hwf : i.wf = true) {rest : List Byte}
    (hrest : i = .escape → rest = []) {e : List Byte} (he : e ∈ encodings normal i) :
    decode normal (e ++ rest) = .instr i e.length := by
  cases normal with
  | true => exact decode_encoding_true hwf hrest he
  | false =>
    obtain ⟨htrue, hlt⟩ | ⟨op, hop, rfl, rfl⟩ := (mem_encodings_false hwf e).1 he
    · have hhead : ((e ++ rest).headD 0).toNat < Config.cutoff := by
        cases e with
        | nil => cases decode_encoding_true (rest := []) hwf (fun _ => rfl) htrue
        | cons op ops => exact hlt
      rw [decode_false_of_lt hhead, decode_encoding_true hwf hrest htrue]
    · exact decode_false_of_ge hop rest

/-! ## The shortest encoding (R117) -/

theorem length_escaped (secondary : Bool) (bs : List Byte) :
    bs.length ≤ (escaped secondary bs).length ∧ (escaped secondary bs).length ≤ bs.length + 1 := by
  cases secondary <;> simp [escaped]

/-- A mini takes one byte, a shortie two or three, a long form three or four. -/
theorem Row.encodings_true_ascend (r : Row) (k : Int) :
    (r.encodings true k).Pairwise fun a b => a.length ≤ b.length := by
  have hmini : ∀ bs ∈ (if r.has .c then [] else r.minis (r.unscale k)), bs.length ≤ 1 := fun bs h => by
    split at h
    · cases h
    · obtain ⟨_, _, _, rfl⟩ := (r.mem_minis _ _).1 h
      exact le_rfl
  have hshort : ∀ bs ∈ r.shorties (r.unscale k), 2 ≤ bs.length ∧ bs.length ≤ 3 := fun bs h => by
    obtain ⟨_, _, _, _, rfl⟩ := (r.mem_shorties _ _).1 h
    exact length_escaped (r.has .s) [_, _]
  have hlong : ∀ bs ∈ r.longs (r.unscale k), 3 ≤ bs.length := fun bs h => by
    rw [List.mem_singleton.1 h]
    exact (length_escaped (r.has .l) [_, _, _]).1
  rw [Row.encodings_true]
  split
  · exact List.pairwise_singleton _ _
  · refine List.pairwise_append.2 ⟨?_, List.pairwise_append.2 ⟨?_, List.pairwise_singleton _ _, ?_⟩, ?_⟩
    · unfold Row.minis
      split_ifs <;> simp
    · unfold Row.shorties
      split <;> simp
    · exact fun a ha b hb => (hshort a ha).2.trans (hlong b hb)
    · intro a ha b hb
      refine (hmini a ha).trans ?_
      obtain hb | hb := List.mem_append.1 hb
      · exact (Nat.le_succ 1).trans (hshort b hb).1
      · exact (by decide : 1 ≤ 3).trans (hlong b hb)

theorem Row.encodings_true_ne_nil (r : Row) (k : Int) : r.encodings true k ≠ [] := by
  rw [Row.encodings_true]
  split <;> simp [Row.longs]

theorem encodings_true_ne_nil {i : Instr} (hwf : i.wf = true) : encodings true i ≠ [] := by
  obtain rfl | ⟨op, rfl⟩ | ⟨r, _, hrow, _⟩ := Instr.row_cases hwf
  · exact List.cons_ne_nil _ _
  · exact List.cons_ne_nil _ _
  · rw [encodings_of_row hrow]
    exact r.encodings_true_ne_nil _

theorem encodings_true_ascend {i : Instr} (hwf : i.wf = true) :
    (encodings true i).Pairwise fun a b => a.length ≤ b.length := by
  obtain rfl | ⟨op, rfl⟩ | ⟨r, _, hrow, _⟩ := Instr.row_cases hwf
  · exact List.pairwise_singleton _ _
  · exact List.pairwise_singleton _ _
  · rw [encodings_of_row hrow]
    exact r.encodings_true_ascend _

/-- The first encoding listed is a shortest one. -/
theorem encode_shortest {i : Instr} (hwf : i.wf = true) :
    encode i ∈ encodings true i ∧ ∀ e ∈ encodings true i, (encode i).length ≤ e.length := by
  have hne := encodings_true_ne_nil hwf
  have hasc := encodings_true_ascend hwf
  unfold encode
  cases h : encodings true i with
  | nil => exact absurd h hne
  | cons e es =>
    rw [h] at hasc
    exact ⟨List.mem_cons_self, List.forall_mem_cons.2 ⟨le_rfl, (List.pairwise_cons.1 hasc).1⟩⟩

/-- Settles O4: the encoder lists what the entries of the opcode maps make of the raw operand, and no opcode has two
entries; in the alternate context an opcode from the cutoff up is a mini of CAL. -/
theorem everyEncodingDecodesBack : Obligations.EveryEncodingDecodesBack :=
  fun _ _ _ hwf hrest => ⟨fun _ he => decode_encoding hwf hrest he, encode_shortest hwf⟩

/-! ## Every decoding is an encoding (R101 to R107, R115) -/

theorem encoding_of_decodedFrom {bs : List Byte} {i : Instr} {n : Nat} (h : DecodedFrom bs i n) :
    i.wf = true ∧ bs.take n ∈ encodings true i := by
  cases h with
  | escape => exact ⟨rfl, List.mem_singleton.2 rfl⟩
  | illegal op rest h => exact ⟨h, List.mem_singleton.2 rfl⟩
  | @line r hr raw bs h rest =>
    obtain ⟨secondary, op, e, ops, hp, ht, _⟩ := id h
    have hplaced := table_wellPlaced r hr
    have hok := Entry.okRaw_of_takes hplaced hp ht
    obtain ⟨hwf, hrow, hraw⟩ := Row.build_spec hr hok
    refine ⟨hwf, ?_⟩
    rw [List.take_left, encodings_of_row hrow]
    rw [← hraw] at hok h
    exact (Row.mem_encodings_iff hplaced hok bs).2 h

theorem encoding_of_decode {normal : Bool} {bs : List Byte} {i : Instr} {n : Nat} (h : decode normal bs = .instr i n) :
    i.wf = true ∧ bs.take n ∈ encodings normal i := by
  cases normal with
  | true => exact encoding_of_decodedFrom (decodedFrom_of_decode h)
  | false =>
    cases bs with
    | nil => cases h
    | cons op rest =>
      by_cases hop : op.toNat < Config.cutoff
      · rw [decode_false_of_lt (bs := op :: rest) hop] at h
        obtain ⟨hwf, hmem⟩ := encoding_of_decodedFrom (decodedFrom_of_decode h)
        refine ⟨hwf, (mem_encodings_false hwf _).2 (.inl ⟨hmem, ?_⟩)⟩
        cases n with
        | zero => exact escape_lt_cutoff
        | succ n => exact hop
      · have hge : Config.cutoff ≤ op.toNat := Nat.le_of_not_lt hop
        rw [decode_false_of_ge hge] at h
        cases h
        have hwf : (Instr.cal (op.toNat - Config.cutoff)).wf = true := by
          have := op.isLt
          have hcut : Config.cutoff = 134 := rfl
          simp only [Instr.wf, okM, Bool.and_eq_true, decide_eq_true_eq]
          omega
        exact ⟨hwf, (mem_encodings_false hwf _).2 (.inr ⟨op, hge, rfl, rfl⟩)⟩

/-- Settles O5: a decoded entry belongs to a line, which builds a well-formed instruction of the raw operand; the
encoder lists that entry. -/
theorem everyDecodingIsAnEncoding : Obligations.EveryDecodingIsAnEncoding := fun _ _ _ _ h =>
  have ⟨hwf, hmem⟩ := encoding_of_decode h
  ⟨hwf, Machine.decode_length h, hmem⟩

end Sys2Proof
end

section
/-! The statements about a step and its instruction, the unassigned opcodes, the escape byte on its own and LSA, and the
words of the encoding tables (R101 to R115, R398, R399, R414). -/

namespace Sys2Proof.Machine

/-! ## A step runs the decoded instruction (R102, R414) -/

theorem step_eq_stepInstr {s : State} (hrun : s.status = .running) (hsig : s.signals = []) : step s = stepInstr s := by
  unfold step
  rw [if_pos hrun, hsig]
  cases s.pending <;> rfl

theorem stepInstr_of_decode {s : State} {i : Instr} {n : Nat} (h : decode s.normalmap s.window = .instr i n) :
    stepInstr s = afterExec (exec i (s.advance n)) := by
  rw [stepInstr, h]

/-- Settles O6. -/
theorem stepRunsTheDecodedInstruction : Obligations.StepRunsTheDecodedInstruction :=
  fun _ _ _ hrun hsig hdec => (step_eq_stepInstr hrun hsig).trans (stepInstr_of_decode hdec)

/-- Nothing is delivered to a stopped machine. -/
theorem afterExec_abort (s : State) (n : Byte) : afterExec (.next (s.abort n)) = .next (s.abort n) := by
  have hstopped : ¬(s.abort n).status = .running := nofun
  exact runOp_of_ok ((deliver_spec (s.abort n)).trans (if_neg hstopped))

/-! ## The bytes at PC (R13, R22) -/

theorem State.window_of_lt {s : State} (h : s.pcI < s.pdI) : ∃ bs, s.window = s.code.read s.pc.toNat :: bs := by
  have hlt : s.pc.toNat < s.pd.toNat := Int.ofNat_lt.1 h
  exact ⟨_, by rw [State.window, State.fetchable, if_pos hlt]⟩

theorem State.window_of_two_le {s : State} (h : s.pcI + 2 ≤ s.pdI) :
    ∃ bs, s.window = s.code.read s.pc.toNat :: s.code.read (s.pc.toNat + 1) :: bs := by
  have hle : s.pc.toNat + 2 ≤ s.pd.toNat := by
    unfold State.pcI State.pdI adr at h
    omega
  exact ⟨_, by rw [State.window, State.fetchable, if_pos (by omega), State.fetchable, if_pos (by omega)]⟩

theorem State.window_of_eq {s : State} (h : s.pcI = s.pdI) : s.window = [] := by
  have heq : s.pc.toNat = s.pd.toNat := Int.ofNat.inj h
  rw [State.window, State.fetchable, if_neg (by omega)]

/-! ## The unassigned escaped opcodes (R115, R399) -/

theorem decode_illegal {op : Byte} (h : unassigned op = true) (normal : Bool) (rest : List Byte) :
    decode normal (0#8 :: op :: rest) = .instr (.illegal op) 2 :=
  decode_encoding (i := .illegal op) (e := [0#8, op]) h nofun (List.mem_singleton.2 rfl)

theorem exec_illegal (op : Byte) (s : State) : exec (.illegal op) s = .next (s.abort EILLINS) := rfl

/-- Settles O44. -/
theorem illegalEncodings : Obligations.IllegalEncodings := by
  intro s op _ hop
  refine ⟨decode_illegal hop true [], exec_illegal op s, fun hrun hsig hlen hesc hread => ?_⟩
  obtain ⟨rest, hwin⟩ := State.window_of_two_le hlen
  rw [hesc, hread] at hwin
  have hdec : decode s.normalmap s.window = .instr (.illegal op) 2 := by rw [hwin, decode_illegal hop]
  rw [stepRunsTheDecodedInstruction s _ _ hrun hsig hdec, exec_illegal, afterExec_abort]
  rfl

/-! ## The escape byte on its own (R103, log entry 23) -/

/-- Of the instructions whose line has an escaped form the secondary table runs each as it is (R105, R111). -/
theorem execSecondary_of_escaped {i : Instr} (h : i.row.any (fun r => r.has .s || r.has .l) = true) (s : State) :
    execSecondary i s = exec i s := by
  cases i with
  | aar | add | cfi | cif | cmf | cmi | csa | csb | dec | div | fad | fdv | fmu | fsb | inc | ine | lae | lar | lde
    | lin | lni | loc | loe | lof | mod | mul | neg | rck | sar | shl | ste | sub | teq | tge | tgt | tle | tlt |
    tne | escape => exact absurd h Bool.false_ne_true
  | _ => rfl

/-- What an escape byte with another byte behind it decodes to is in the secondary table. -/
theorem execSecondary_of_decodeEscaped {op : Byte} {rest : List Byte} {i : Instr} {n : Nat}
    (h : decodeEscaped (op :: rest) = .instr i n) (s : State) : i ≠ .escape ∧ execSecondary i s = exec i s := by
  cases he : secondaryEntry op with
  | none =>
    rw [decodeEscaped_of_none he] at h
    cases h
    exact ⟨nofun, rfl⟩
  | some e =>
    rw [decodeEscaped_of_some he] at h
    obtain ⟨r, hr, hre⟩ := exists_entry_of_mapEntry (secondary := true) he
    have hp := Row.places_of_entry hre
    obtain ⟨raw, ops, _, ht, _, rfl, _⟩ := Entry.takes_of_decode h
    obtain ⟨_, hrow, _⟩ := Row.build_spec hr (Entry.okRaw_of_takes (table_wellPlaced r hr) hp ht)
    rw [Entry.row_of_places hp]
    refine ⟨fun hesc => ?_, execSecondary_of_escaped ?_ s⟩
    · rw [hesc] at hrow
      cases (show none = some r from hrow)
    · rw [hrow, Option.any_some, Row.has_of_places_secondary hp]

theorem execEscape_of_decodeEscaped {s : State} {i : Instr} {n : Nat} (h : decodeEscaped s.window = .instr i n)
    (hi : i ≠ .escape) : execEscape s = execSecondary i (s.advance (n - 1)) := by
  unfold execEscape
  rw [h]
  split
  · next heq => cases heq; exact absurd rfl hi
  · next heq => cases heq; rfl
  · next heq => cases heq

theorem exec_escape_of_decode {s : State} {i : Instr} {n : Nat} (hpc : s.pcI < s.pdI)
    (h : decode true (0#8 :: s.window) = .instr i n) : exec .escape s = exec i (s.advance (n - 1)) := by
  obtain ⟨rest, hwin⟩ := State.window_of_lt hpc
  have hdec : decodeEscaped s.window = .instr i n := h
  obtain ⟨hne, hexec⟩ := execSecondary_of_decodeEscaped (hwin ▸ hdec) (s.advance (n - 1))
  exact (execEscape_of_decodeEscaped hdec hne).trans hexec

theorem exec_nop (s : State) : exec .nop s = .next s := rfl

theorem decode_nop (rest : List Byte) : decode true (0#8 :: 89#8 :: rest) = .instr .nop 2 :=
  decode_encoding (i := .nop) (e := [0#8, 89#8]) rfl nofun (List.mem_singleton.2 rfl)

theorem exec_escape_of_window_nil {s : State} (h : s.window = []) : exec .escape s = .next (s.abort EPC) := by
  change execEscape s = _
  rw [execEscape, h]
  exact congrArg (fun t : State => Host.Outcome.next (t.abort EPC)) s.advance_zero

theorem exec_lsa (k : Int) (s : State) : exec (.lsa k) s = .next (s.abort EILLINS) :=
  runOp_of_error (trap_of_fatal (n := EILLINS) rfl s)

/-- Settles O45: whatever the secondary table holds, the escape byte runs it. -/
theorem escapeByteAndLsa : Obligations.EscapeByteAndLsa := by
  refine ⟨fun s i n _ hpc hdec _ => exec_escape_of_decode hpc hdec, fun s _ => ⟨fun hpc hread => ?_, fun hpc => ?_,
    fun k => exec_lsa k s⟩⟩
  · obtain ⟨rest, hwin⟩ := State.window_of_lt hpc
    rw [hread] at hwin
    rw [exec_escape_of_decode hpc (hwin ▸ decode_nop rest), exec_nop]
    rfl
  · exact exec_escape_of_window_nil (State.window_of_eq hpc)

/-! ## Words of the encoding tables (R104, R106, R110, R111, R115) -/

/-- Settles O3: the words one by one; that the maps are total is a fact about the lines of the table. -/
theorem encodingTablesDecode : Obligations.EncodingTablesDecode := by
  refine ⟨?_, primaryEntry_isSome, secondaryEntry_isNone⟩
  and_intros
  all_goals decide

end Sys2Proof.Machine
end

section
/-! Load files are read back from the bytes they are written as (R170 to R177). -/

namespace Sys2Proof.Machine

/-! ## Words, bytes, pairs (R170, R176) -/

theorem readWord_wordBytes (w : Word) (rest : List Byte) : readWord (wordBytes w ++ rest) = some (w, rest) := by
  simp only [wordBytes, List.cons_append, List.nil_append, readWord, wordOf_lowByte_highByte]

theorem readWords_flatMap (ws : List Word) (rest : List Byte) :
    readWords ws.length (ws.flatMap wordBytes ++ rest) = some (ws, rest) := by
  induction ws with
  | nil => rfl
  | cons w ws ih =>
    simp only [List.length_cons, List.flatMap_cons, List.append_assoc, readWords, readWord_wordBytes, ih]

theorem readBytes_append (bs rest : List Byte) : readBytes bs.length (bs ++ rest) = some (bs, rest) := by
  induction bs with
  | nil => rfl
  | cons b bs ih => simp only [List.length_cons, List.cons_append, readBytes, ih]

theorem readPairs_flatMap (ds : List (Word × Word)) (rest : List Byte) :
    readPairs ds.length (ds.flatMap (fun d => wordBytes d.1 ++ wordBytes d.2) ++ rest) = some (ds, rest) := by
  induction ds with
  | nil => rfl
  | cons d ds ih =>
    have hpair : ∀ tail : List Byte, readWords 2 (wordBytes d.1 ++ (wordBytes d.2 ++ tail)) = some ([d.1, d.2], tail) :=
      fun tail => by simpa using readWords_flatMap [d.1, d.2] tail
    simp only [List.length_cons, List.flatMap_cons, List.append_assoc, readPairs, hpair, ih]

/-! ## Strings (R176) -/

/-- What follows a string of `n` bytes, after as many bytes before it as `odd` says: its null, and the pad byte where the
null ends at an odd place. -/
def stringEnd (odd : Bool) (n : Nat) : List Byte := if decide (n % 2 = 1) = odd then [0#8, 0#8] else [0#8]

theorem stringBytes_eq (c : List Byte) : stringBytes c = c ++ stringEnd false c.length := by
  unfold stringBytes stringEnd
  obtain h | h := Nat.mod_two_eq_zero_or_one c.length <;> simp [h]

theorem stringEnd_succ (odd : Bool) (n : Nat) : stringEnd odd (n + 1) = stringEnd (!odd) n := by
  unfold stringEnd
  obtain h | h := Nat.mod_two_eq_zero_or_one n <;> cases odd <;> simp [Nat.succ_mod_two_eq_one_iff, h]

theorem readString_append {c : List Byte} (rest : List Byte) (hc : ∀ b ∈ c, b ≠ 0#8) : ∀ odd : Bool,
    readString odd (c ++ (stringEnd odd c.length ++ rest)) = some (c, rest) := by
  induction c with
  | nil => rintro (_ | _) <;> rfl
  | cons b c ih =>
    intro odd
    have hb : b ≠ 0#8 := hc b List.mem_cons_self
    have htail := ih (fun x hx => hc x (List.mem_cons_of_mem b hx)) (!odd)
    simp only [List.length_cons, List.cons_append, stringEnd_succ, readString, if_neg hb, htail]

theorem readStrings_flatMap {cs : List (List Byte)} (rest : List Byte) (hcs : ∀ c ∈ cs, ∀ b ∈ c, b ≠ 0#8) :
    readStrings cs.length (cs.flatMap stringBytes ++ rest) = some (cs, rest) := by
  induction cs with
  | nil => rfl
  | cons c cs ih =>
    have htail := ih fun x hx => hcs x (List.mem_cons_of_mem c hx)
    simp only [List.length_cons, List.flatMap_cons, stringBytes_eq c, List.append_assoc, readStrings,
      readString_append _ (hcs c List.mem_cons_self), htail]

/-! ## Data descriptors (R176) -/

/-- The first word of a descriptor of initialized data: bit 15, the type, the count. -/
theorem descriptorWord_fields {base type n : Nat} (hbase : base = 32768 + 8192 * type) (ht : type < 4) (hn : n < 8192) :
    ¬ (BitVec.ofNat 16 (base + n)).toNat < 32768 ∧ (BitVec.ofNat 16 (base + n)).toNat / 8192 % 4 = type ∧
      (BitVec.ofNat 16 (base + n)).toNat % 8192 = n := by
  simp only [BitVec.toNat_ofNat]
  omega

theorem readBlock_bytes {b : DataBlock} (h : b.wf = true) (rest : List Byte) :
    readBlock (b.bytes ++ rest) = some (b, rest) := by
  cases b with
  | uninitialized n =>
    have hn : n < 32768 := of_decide_eq_true h
    have hw : (BitVec.ofNat 16 n).toNat = n := by simp only [BitVec.toNat_ofNat]; omega
    simp only [DataBlock.bytes, readBlock, readWord_wordBytes, hw, if_pos hn]
  | words ws =>
    obtain ⟨hinit, htype, hcount⟩ := descriptorWord_fields (type := 0) rfl (by decide) (of_decide_eq_true h)
    simp only [DataBlock.bytes, List.append_assoc, readBlock, readWord_wordBytes, if_neg hinit, htype, hcount,
      readWords_flatMap, Option.map_some]
  | pointers ws =>
    obtain ⟨hinit, htype, hcount⟩ := descriptorWord_fields (type := 1) rfl (by decide) (of_decide_eq_true h)
    simp only [DataBlock.bytes, List.append_assoc, readBlock, readWord_wordBytes, if_neg hinit, htype, hcount,
      readWords_flatMap, Option.map_some]
  | doubles ds =>
    obtain ⟨hinit, htype, hcount⟩ := descriptorWord_fields (type := 2) rfl (by decide) (of_decide_eq_true h)
    simp only [DataBlock.bytes, List.append_assoc, readBlock, readWord_wordBytes, if_neg hinit, htype, hcount,
      readPairs_flatMap, Option.map_some]
  | floats cs =>
    simp only [DataBlock.wf, Bool.and_eq_true, decide_eq_true_eq, List.all_eq_true] at h
    obtain ⟨hlen, hcs⟩ := h
    obtain ⟨hinit, htype, hcount⟩ := descriptorWord_fields (type := 3) rfl (by decide) hlen
    simp only [DataBlock.bytes, List.append_assoc, readBlock, readWord_wordBytes, if_neg hinit, htype, hcount,
      readStrings_flatMap _ hcs, Option.map_some]

theorem readBlocks_flatMap {ds : List DataBlock} (rest : List Byte) (h : ∀ d ∈ ds, d.wf = true) :
    readBlocks ds.length (ds.flatMap DataBlock.bytes ++ rest) = some (ds, rest) := by
  induction ds with
  | nil => rfl
  | cons d ds ih =>
    have htail := ih fun x hx => h x (List.mem_cons_of_mem d hx)
    simp only [List.length_cons, List.flatMap_cons, List.append_assoc, readBlocks,
      readBlock_bytes (h d List.mem_cons_self), htail]

/-! ## The file (R170) -/

/-- What a well-formed file's header says of its parts, by name. -/
theorem LoadFile.wf_iff (f : LoadFile) :
    f.wf = true ↔ f.first.length = 8 ∧ f.unused.length = 3 ∧ f.text.length = f.header.ntext.toNat ∧
      f.blocks.length = f.header.ndata.toNat - 1 ∧
      f.descriptors.length = Config.pdsiz * f.header.nproc.toNat ∧ ∀ b ∈ f.blocks, b.wf = true := by
  simp only [LoadFile.wf, Bool.and_eq_true, decide_eq_true_eq, List.all_eq_true, and_assoc]

theorem readLoadFile_bytes {f : LoadFile} (h : f.wf = true) : readLoadFile f.bytes = some f := by
  obtain ⟨hfirst, hunused, htext, hblocks, hdescriptors, hwf⟩ := (LoadFile.wf_iff f).1 h
  have hread1 (rest : List Byte) : readWords 8 (f.first.flatMap wordBytes ++ rest) = some (f.first, rest) := by
    rw [← hfirst, readWords_flatMap]
  have hread2 (rest : List Byte) :
      readWords 8 (f.header.toWords.flatMap wordBytes ++ (f.unused.flatMap wordBytes ++ rest))
        = some (f.header.toWords ++ f.unused, rest) := by
    rw [← List.append_assoc, ← List.flatMap_append, ← readWords_flatMap, List.length_append, hunused]
    rfl
  have hread3 : readBytes (Config.pdsiz * f.header.nproc.toNat) f.descriptors = some (f.descriptors, []) := by
    rw [← hdescriptors]
    simpa using readBytes_append f.descriptors []
  simp only [readLoadFile, LoadFile.bytes, List.append_assoc, hread1, hread2, Option.bind_eq_bind, Option.bind_some]
  simp [Header.toWords, ← htext, ← hblocks, readBytes_append, readWord_wordBytes, readBlocks_flatMap _ hwf, hread3]

end Sys2Proof.Machine
end

section
/-! Compact assembly files are read back from the bytes they are written as (R160 to R166). -/

namespace Sys2Proof.Machine

/-! ## Strings and numbers (R162) -/

theorem takeAscii_append (s rest : List Byte) : takeAscii s.length (s ++ rest) = some (s, rest) := by
  induction s with
  | nil => rfl
  | cons b s ih => simp only [List.length_cons, List.cons_append, takeAscii, ih]

theorem toNat_ofNat_of_lt {w n : Nat} (h : n < 2 ^ w) : (BitVec.ofNat w n).toNat = n := by
  rw [BitVec.toNat_ofNat, Nat.mod_eq_of_lt h]

theorem readAscii_writeAscii {s : List Byte} (h : s.length < 65536) (rest : List Byte) :
    readAscii (writeAscii s ++ rest) = some (s, rest) := by
  unfold writeAscii
  split
  · next hshort =>
    have hlen : (BitVec.ofNat 8 s.length).toNat = s.length := toNat_ofNat_of_lt (by omega)
    simp only [List.cons_append, readAscii, hlen, if_pos hshort, takeAscii_append]
  · have hlen : (BitVec.ofNat 16 s.length).toNat = s.length := toNat_ofNat_of_lt h
    show takeAscii (wordOf (lowByte _) (highByte _)).toNat (s ++ rest) = _
    rw [wordOf_lowByte_highByte, hlen, takeAscii_append]

theorem readAsciiAs_writeAscii {α : Type} (f : List Byte → α) {s : List Byte} (h : s.length < 65536)
    (rest : List Byte) : readAsciiAs f (writeAscii s ++ rest) = some (f s, rest) := by
  simp only [readAsciiAs, readAscii_writeAscii h]

/-- A reader that takes a number of one byte behind `short` and of two bytes behind `long` reads back a number of the
common table. -/
theorem read_writeNumber {α : Type} {read : List Byte → Option (α × List Byte)} {f : Nat → α} {short long : Byte}
    (hshort : ∀ b rest, read (short :: b :: rest) = some (f b.toNat, rest))
    (hlong : ∀ lo hi rest, read (long :: lo :: hi :: rest) = some (f (wordOf lo hi).toNat, rest))
    {n : Nat} (h : n < 65536) (rest : List Byte) : read (writeNumber short long n ++ rest) = some (f n, rest) := by
  unfold writeNumber
  split
  · next hn =>
    show read (short :: BitVec.ofNat 8 n :: rest) = _
    rw [hshort, toNat_ofNat_of_lt hn]
  · show read (long :: lowByte _ :: highByte _ :: rest) = _
    rw [hlong, wordOf_lowByte_highByte, toNat_ofNat_of_lt h]

/-! ## Operands (R161, R162) -/

theorem toNat_ofInt_byte {v : Int} (h0 : 0 ≤ v) (h1 : v < 256) : ((BitVec.ofInt 8 v).toNat : Int) = v := by
  rw [BitVec.toNat_ofInt]
  omega

theorem s16_u16 {v : Int} (h0 : -32768 ≤ v) (h1 : v ≤ 32767) : s16 (u16 v) = v :=
  BitVec.toInt_ofInt_eq_self (by decide) h0 (by omega)

theorem readOperand_byte {op : Byte} (h : op.toNat < 240) (rest : List Byte) :
    readOperand (op :: rest) = some (.const op.toNat, rest) := by
  simp only [readOperand, if_pos h]

/-- The three forms of a constant of at most two bytes: its own byte, a byte, a negated byte. -/
theorem readOperand_short_const {v : Int} (h0 : -256 < v) (h1 : v < 256) (rest : List Byte) :
    readOperand ((AsmOperand.const v).bytes ++ rest) = some (.const v, rest) := by
  simp only [AsmOperand.bytes]
  split
  · have hv := toNat_ofInt_byte (v := v) (by omega) (by omega)
    rw [List.singleton_append, readOperand_byte (by omega), hv]
  · split
    · have hv := toNat_ofInt_byte (v := v) (by omega) (by omega)
      show some (AsmOperand.const ((BitVec.ofInt 8 v).toNat : Int), rest) = _
      rw [hv]
    · have hv := toNat_ofInt_byte (v := -v) (by omega) (by omega)
      rw [if_pos (by omega)]
      show some (AsmOperand.const (-((BitVec.ofInt 8 (-v)).toNat : Int)), rest) = _
      rw [hv, Int.neg_neg]

theorem AsmOperand.bytes_long_const {v : Int} (h : v ≤ -256 ∨ 256 ≤ v) :
    (AsmOperand.const v).bytes = [250#8, lowByte (u16 v), highByte (u16 v)] := by
  simp only [AsmOperand.bytes]
  rw [if_neg (by omega), if_neg (by omega), if_neg (by omega)]
  rfl

theorem readOperand_const {v : Int} (h0 : -32768 ≤ v) (h1 : v ≤ 32767) (rest : List Byte) :
    readOperand ((AsmOperand.const v).bytes ++ rest) = some (.const v, rest) := by
  by_cases hshort : -256 < v ∧ v < 256
  · exact readOperand_short_const hshort.1 hshort.2 rest
  · rw [AsmOperand.bytes_long_const (by omega)]
    show some (AsmOperand.const (s16 (wordOf (lowByte (u16 v)) (highByte (u16 v)))), rest) = _
    rw [wordOf_lowByte_highByte, s16_u16 h0 h1]

theorem readOperand_bytes {o : AsmOperand} (h : o.wf = true) (rest : List Byte) :
    readOperand (o.bytes ++ rest) = some (o, rest) := by
  cases o with
  | const v =>
    simp only [AsmOperand.wf, Bool.and_eq_true, decide_eq_true_eq] at h
    exact readOperand_const h.1 h.2 rest
  | label n =>
    exact read_writeNumber (f := AsmOperand.label) (fun _ _ => rfl) (fun _ _ _ => rfl) (of_decide_eq_true h) rest
  | data n =>
    exact read_writeNumber (f := AsmOperand.data) (fun _ _ => rfl) (fun _ _ _ => rfl) (of_decide_eq_true h) rest
  | symbol s => exact readAsciiAs_writeAscii AsmOperand.symbol (of_decide_eq_true h) rest
  | proc s => exact readAsciiAs_writeAscii AsmOperand.proc (of_decide_eq_true h) rest
  | string s => exact readAsciiAs_writeAscii AsmOperand.string (of_decide_eq_true h) rest
  | real s => exact readAsciiAs_writeAscii AsmOperand.real (of_decide_eq_true h) rest
  | long s => exact readAsciiAs_writeAscii AsmOperand.long (of_decide_eq_true h) rest

/-! ## Operands of machine instructions (R162) -/

/-- What a machine instruction may have as its operand: the label of a branch is not negative. -/
def AsmOperand.wfFor (line : Nat) (o : AsmOperand) : Bool :=
  match o with
  | .const v =>
    if isBranch line then decide (0 ≤ v) && decide (v < 65536) else decide (-32768 ≤ v) && decide (v ≤ 32767)
  | o => o.wf

theorem AsmStatement.wf_instr_iff (line : Nat) (o : AsmOperand) :
    (AsmStatement.instr line (some o)).wf = true ↔ hasOperand line = some true ∧ o.wfFor line = true := by
  cases o <;> simp [AsmStatement.wf, AsmOperand.wfFor]

theorem AsmOperand.wfFor_of_not_branch {line : Nat} (hb : isBranch line = false) (o : AsmOperand) :
    o.wfFor line = o.wf := by
  cases o with
  | const v => simp only [AsmOperand.wfFor, hb]; rfl
  | _ => rfl

theorem writeNumber_eq_cons (short long : Byte) (n : Nat) :
    ∃ op bs, writeNumber short long n = op :: bs ∧ (op = short ∨ op = long) := by
  unfold writeNumber
  split
  · exact ⟨short, _, rfl, .inl rfl⟩
  · exact ⟨long, _, rfl, .inr rfl⟩

/-- No operand begins with the delimiter 255, and only a constant of a word begins with 250. -/
theorem AsmOperand.bytes_eq_cons (o : AsmOperand) : ∃ op bs, o.bytes = op :: bs ∧ op ≠ 255#8 ∧
    ((∀ v, o = .const v → -256 < v ∧ v < 256) → op ≠ 250#8) := by
  cases o with
  | const v =>
    simp only [AsmOperand.bytes]
    split
    · have hv := toNat_ofInt_byte (v := v) (by omega) (by omega)
      have hne {c : Byte} (hc : 240 ≤ c.toNat) : BitVec.ofInt 8 v ≠ c := fun he => by
        rw [he] at hv
        omega
      exact ⟨_, _, rfl, hne (by decide), fun _ => hne (by decide)⟩
    · split
      · exact ⟨_, _, rfl, by decide, fun _ => by decide⟩
      · split
        · exact ⟨_, _, rfl, by decide, fun _ => by decide⟩
        · refine ⟨_, _, rfl, by decide, fun h => ?_⟩
          have := h v rfl
          omega
  | label n =>
    obtain ⟨op, bs, he, rfl | rfl⟩ := writeNumber_eq_cons 240#8 241#8 n <;>
      exact ⟨_, bs, he, by decide, fun _ => by decide⟩
  | data n =>
    obtain ⟨op, bs, he, rfl | rfl⟩ := writeNumber_eq_cons 242#8 243#8 n <;>
      exact ⟨_, bs, he, by decide, fun _ => by decide⟩
  | symbol | proc | string | real | long => exact ⟨_, _, rfl, by decide, fun _ => by decide⟩

theorem readInstrOperand_of_head_ne {op : Byte} (h : op ≠ 250#8) (line : Nat) (bs : List Byte) :
    readInstrOperand line (op :: bs) = readOperand (op :: bs) := by
  unfold readInstrOperand
  split
  · next heq =>
    cases heq
    rw [if_neg h]
  · rfl

/-- What is no constant of a word is read as any operand is. -/
theorem readInstrOperand_of_not_word {o : AsmOperand} (h : ∀ v, o = .const v → -256 < v ∧ v < 256) (line : Nat)
    (rest : List Byte) : readInstrOperand line (o.bytes ++ rest) = readOperand (o.bytes ++ rest) := by
  obtain ⟨op, bs, he, _, hop⟩ := o.bytes_eq_cons
  rw [he]
  exact readInstrOperand_of_head_ne (hop h) line (bs ++ rest)

theorem readInstrOperand_of_not_branch {line : Nat} (hb : isBranch line = false) (bs : List Byte) :
    readInstrOperand line bs = readOperand bs := by
  unfold readInstrOperand
  rw [hb]

theorem readInstrOperand_word {line : Nat} (hb : isBranch line = true) (lo hi : Byte) (rest : List Byte) :
    readInstrOperand line (250#8 :: lo :: hi :: rest) = some (.const (wordOf lo hi).toNat, rest) := by
  unfold readInstrOperand
  rw [hb]
  rfl

theorem readInstrOperand_branch {line : Nat} (hb : isBranch line = true) {o : AsmOperand} (h : o.wfFor line = true)
    (rest : List Byte) : readInstrOperand line (o.bytes ++ rest) = some (o, rest) := by
  cases o with
  | const v =>
    simp only [AsmOperand.wfFor, hb, if_true, Bool.and_eq_true, decide_eq_true_eq] at h
    by_cases hv : 256 ≤ v
    · have hlabel : ((u16 v).toNat : Int) = v := adr_u16 h.1 h.2
      rw [AsmOperand.bytes_long_const (.inr hv)]
      show readInstrOperand line (250#8 :: lowByte (u16 v) :: highByte (u16 v) :: rest) = _
      rw [readInstrOperand_word hb, wordOf_lowByte_highByte, hlabel]
    · rw [readInstrOperand_of_not_word fun _ he => by cases he; omega]
      exact readOperand_short_const (by omega) (by omega) rest
  | _ =>
    rw [readInstrOperand_of_not_word fun _ he => by cases he]
    exact readOperand_bytes (by exact h) rest

theorem readInstrOperand_bytes {line : Nat} {o : AsmOperand} (h : o.wfFor line = true) (rest : List Byte) :
    readInstrOperand line (o.bytes ++ rest) = some (o, rest) := by
  cases hb : isBranch line with
  | true => exact readInstrOperand_branch hb h rest
  | false =>
    rw [readInstrOperand_of_not_branch hb]
    exact readOperand_bytes (AsmOperand.wfFor_of_not_branch hb o ▸ h) rest

/-! ## Lists of operands (R164) -/

theorem operandBytes_cons (o : AsmOperand) (os : List AsmOperand) :
    operandBytes (o :: os) = o.bytes ++ operandBytes os := rfl

theorem readOperands_bytes {os : List AsmOperand} (h : ∀ o ∈ os, o.wf = true) (rest : List Byte) :
    readOperands os.length (operandBytes os ++ rest) = some (os, rest) := by
  induction os with
  | nil => rfl
  | cons o os ih =>
    have htail := ih fun x hx => h x (List.mem_cons_of_mem o hx)
    simp only [List.length_cons, operandBytes_cons, List.append_assoc, readOperands,
      readOperand_bytes (h o List.mem_cons_self), htail]

theorem readList_bytes {os : List AsmOperand} (h : ∀ o ∈ os, o.wf = true) (rest : List Byte) : ∀ fuel,
    os.length < fuel → readList fuel (operandBytes os ++ (255#8 :: rest)) = some (os, rest) := by
  induction os with
  | nil =>
    rintro (_ | fuel) hf
    · cases hf
    · rfl
  | cons o os ih =>
    rintro (_ | fuel) hf
    · cases hf
    · have htail := ih (fun x hx => h x (List.mem_cons_of_mem o hx)) fuel (Nat.lt_of_succ_lt_succ hf)
      have hread := readOperand_bytes (h o List.mem_cons_self) (operandBytes os ++ (255#8 :: rest))
      obtain ⟨op, bs, he, hne, _⟩ := o.bytes_eq_cons
      have hop : op.toNat ≠ 255 := fun h => hne (BitVec.eq_of_toNat_eq h)
      simp only [operandBytes_cons, List.append_assoc, he, List.cons_append] at hread ⊢
      simp only [readList, if_neg hop, hread, htail]

theorem length_le_operandBytes (os : List AsmOperand) : os.length ≤ (operandBytes os).length := by
  induction os with
  | nil => exact Nat.le_refl 0
  | cons o os ih =>
    obtain ⟨op, bs, he, _⟩ := o.bytes_eq_cons
    simp only [operandBytes_cons, he, List.length_cons, List.length_append]
    omega

/-! ## Statements (R160) -/

theorem table_numbers_lt : ∀ r ∈ table, r.number < 140 := by
  rw [← List.forall_iff_forall_mem]
  and_intros
  all_goals decide

theorem line_lt_of_hasOperand {line : Nat} {b : Bool} (h : hasOperand line = some b) : line < 140 := by
  unfold hasOperand at h
  obtain ⟨r, hr, _⟩ := Option.map_eq_some_iff.1 h
  have hnumber : r.number = line := by simpa using List.find?_some hr
  exact hnumber ▸ table_numbers_lt r (List.mem_of_find?_eq_some hr)

theorem readStatement_instr {line : Nat} {o : Option AsmOperand} (h : (AsmStatement.instr line o).wf = true)
    (rest : List Byte) : readStatement ((AsmStatement.instr line o).bytes ++ rest) = some (.instr line o, rest) := by
  cases o with
  | none =>
    have hz : hasOperand line = some false := by
      simpa [AsmStatement.wf] using h
    have hlt := line_lt_of_hasOperand hz
    have hline : (BitVec.ofNat 8 line).toNat = line := toNat_ofNat_of_lt (by omega)
    simp only [AsmStatement.bytes, List.singleton_append, readStatement, hline, if_pos hlt, hz]
  | some o =>
    obtain ⟨hz, ho⟩ := (AsmStatement.wf_instr_iff line o).1 h
    have hlt := line_lt_of_hasOperand hz
    have hline : (BitVec.ofNat 8 line).toNat = line := toNat_ofNat_of_lt (by omega)
    simp only [AsmStatement.bytes, List.cons_append, readStatement, hline, if_pos hlt, hz, readInstrOperand_bytes ho]

theorem Pseudo.code_bounds (p : Pseudo) : 140 ≤ p.code ∧ p.code < 180 := by cases p <;> decide

theorem Pseudo.ofCode_code (p : Pseudo) : Pseudo.ofCode p.code = some p := by cases p <;> decide

theorem readStatement_pseudo {p : Pseudo} {os : List AsmOperand} (h : (AsmStatement.pseudo p os).wf = true)
    (rest : List Byte) : readStatement ((AsmStatement.pseudo p os).bytes ++ rest) = some (.pseudo p os, rest) := by
  simp only [AsmStatement.wf, Bool.and_eq_true, List.all_eq_true] at h
  obtain ⟨hcount, hos⟩ := h
  obtain ⟨hlow, hhigh⟩ := p.code_bounds
  have hcode : (BitVec.ofNat 8 p.code).toNat = p.code := toNat_ofNat_of_lt (by omega)
  simp only [AsmStatement.bytes, List.cons_append, List.append_assoc, readStatement, hcode, if_neg (Nat.not_lt.2 hlow),
    if_pos hhigh, p.ofCode_code]
  cases harity : p.arity with
  | some n =>
    rw [harity] at hcount
    obtain rfl : os.length = n := by simpa using hcount
    have hread := readOperands_bytes hos rest
    simp only [Option.isNone_some, Bool.false_eq_true, if_false, List.nil_append, hread]
  | none =>
    have hlen := length_le_operandBytes os
    have hread := readList_bytes hos rest ((operandBytes os ++ 255#8 :: rest).length + 1) (by
      rw [List.length_append]
      omega)
    simp only [Option.isNone_none, if_true, List.cons_append, List.nil_append, hread]

theorem readStatement_bytes {s : AsmStatement} (h : s.wf = true) (rest : List Byte) :
    readStatement (s.bytes ++ rest) = some (s, rest) := by
  cases s with
  | label n =>
    simp only [AsmStatement.bytes]
    split
    · next hn =>
      have hop : (BitVec.ofNat 8 (180 + n)).toNat = 180 + n := toNat_ofNat_of_lt (by omega)
      simp only [List.singleton_append, readStatement, hop]
      rw [if_neg (by omega), if_neg (by omega), if_pos (by omega), Nat.add_sub_cancel_left]
    · exact read_writeNumber (f := AsmStatement.label) (fun _ _ => rfl) (fun _ _ _ => rfl) (of_decide_eq_true h) rest
  | data n =>
    exact read_writeNumber (f := AsmStatement.data) (fun _ _ => rfl) (fun _ _ _ => rfl) (of_decide_eq_true h) rest
  | symbol s => exact readAsciiAs_writeAscii AsmStatement.symbol (of_decide_eq_true h) rest
  | instr line o => exact readStatement_instr h rest
  | pseudo p os => exact readStatement_pseudo h rest

/-! ## The file (R143, R165) -/

theorem AsmStatement.bytes_ne_nil (s : AsmStatement) : s.bytes ≠ [] := by
  cases s with
  | label n =>
    obtain ⟨op, bs, he, _⟩ := writeNumber_eq_cons 240#8 241#8 n
    simp only [AsmStatement.bytes, he]
    split <;> exact List.cons_ne_nil _ _
  | data n =>
    obtain ⟨op, bs, he, _⟩ := writeNumber_eq_cons 242#8 243#8 n
    simp only [AsmStatement.bytes, he]
    exact List.cons_ne_nil _ _
  | symbol => exact List.cons_ne_nil _ _
  | instr _ o => cases o <;> exact List.cons_ne_nil _ _
  | pseudo => exact List.cons_ne_nil _ _

/-- Statements up to EOF are read back: none before the last is EOF. -/
theorem readStatements_bytes {ss : List AsmStatement} (hwf : ∀ s ∈ ss, s.wf = true)
    (hss : ∀ s ∈ ss, s ≠ .pseudo .eof []) : ∀ fuel, ss.length < fuel →
      readStatements fuel ((ss.map AsmStatement.bytes).flatten ++ (AsmStatement.pseudo .eof []).bytes)
        = some (ss ++ [.pseudo .eof []]) := by
  induction ss with
  | nil =>
    rintro (_ | fuel) hf
    · cases hf
    · rfl
  | cons s ss ih =>
    rintro (_ | fuel) hf
    · cases hf
    · have htail := ih (fun x hx => hwf x (List.mem_cons_of_mem s hx)) (fun x hx => hss x (List.mem_cons_of_mem s hx))
        fuel (Nat.lt_of_succ_lt_succ hf)
      simp only [List.map_cons, List.flatten_cons, List.append_assoc, readStatements,
        readStatement_bytes (hwf s List.mem_cons_self), if_neg (hss s List.mem_cons_self), htail, List.cons_append]

theorem length_le_statementBytes (ss : List AsmStatement) :
    ss.length ≤ ((ss.map AsmStatement.bytes).flatten).length := by
  induction ss with
  | nil => exact Nat.le_refl 0
  | cons s ss ih =>
    have := List.length_pos_iff.2 s.bytes_ne_nil
    simp only [List.map_cons, List.flatten_cons, List.length_cons, List.length_append]
    omega

/-- A module is the statements before EOF, and EOF. -/
theorem eq_append_eof_of_endsInEof {ss : List AsmStatement} (h : endsInEof ss = true) :
    ∃ body, ss = body ++ [.pseudo .eof []] ∧ ∀ s ∈ body, s ≠ .pseudo .eof [] := by
  simp only [endsInEof, Bool.and_eq_true, beq_iff_eq, Bool.not_eq_true', List.contains_eq_mem, decide_eq_false_iff_not] at h
  obtain ⟨hlast, hbody⟩ := h
  exact ⟨ss.dropLast, (List.dropLast_append_getLast? _ hlast).symm, fun s hs he => hbody (he ▸ hs)⟩

theorem readCompact_writeCompact {ss : List AsmStatement} (h : moduleWf ss = true) :
    readCompact (writeCompact ss) = some ss := by
  simp only [moduleWf, Bool.and_eq_true, List.all_eq_true] at h
  obtain ⟨hwf, hend⟩ := h
  obtain ⟨body, rfl, hbody⟩ := eq_append_eof_of_endsInEof hend
  have hlen := length_le_statementBytes (body ++ [AsmStatement.pseudo .eof []])
  rw [List.length_append] at hlen
  show readStatements (((body ++ [AsmStatement.pseudo .eof []]).map AsmStatement.bytes).flatten).length _ = _
  have hread := readStatements_bytes (fun s hs => hwf s (List.mem_append_left _ hs)) hbody _ hlen
  rwa [List.map_append, List.flatten_append] at *

/-! ## The statement about both files -/

/-- Settles O59: each file part by part, in the order in which the reader takes them. -/
theorem filesRoundTrip : Obligations.FilesRoundTrip := ⟨fun _ => readLoadFile_bytes, fun _ => readCompact_writeCompact⟩

end Sys2Proof.Machine
end

section
/-! What statements read of the data space: two states that differ only in bytes out of reach (R63, R64) go through the
same statements and differ only in such bytes behind them. -/

namespace Sys2Proof.Machine

/-! ## Data out of reach -/

/-- The state with another data space. -/
def State.withData (s : State) (d : Memory) : State := { s with data := d }

/-- The sound state `s` may have the data `d` instead of its own, and what a program can reach is the same. -/
structure Agrees (s : State) (d : Memory) : Prop where
  sound : s.Sound
  other_sound : (s.withData d).Sound
  byte_eq : ∀ a : Int, s.reaches a = true → (s.withData d).byte a = s.byte a

theorem State.reaches_iff (s : State) (a : Int) :
    s.reaches a = true ↔ 0 ≤ a ∧ a ≤ s.maxdata ∧ (a ≤ s.spI + 1 ∨ s.hpI ≤ a) := by
  simp only [State.reaches, Bool.and_eq_true, Bool.or_eq_true, decide_eq_true_eq, and_assoc]

section
variable {s : State} {d : Memory}

theorem Agrees.sameVisible (h : Agrees s d) : sameVisible s (s.withData d) :=
  ⟨rfl, fun a ha => (h.byte_eq a ha).symm⟩

theorem Agrees.byte_eq_of_okadr (h : Agrees s d) {a : Int} (ha : s.okadr a = true) :
    (s.withData d).byte a = s.byte a := by
  rw [State.okadr_iff] at ha
  exact h.byte_eq a ((s.reaches_iff a).2 (by omega))

/-- The highest address is odd, so that the high byte of a word in reach is in reach (D2). -/
theorem Agrees.word_eq (h : Agrees s d) {a : Int} (ha : s.okword a = true) : (s.withData d).word a = s.word a := by
  rw [State.okword_iff] at ha
  have hodd := h.sound.maxdata_bounds
  rw [State.word_eq_wordOf _ (by omega), State.word_eq_wordOf _ (by omega),
    h.byte_eq a ((s.reaches_iff a).2 (by omega)), h.byte_eq (a + 1) ((s.reaches_iff (a + 1)).2 (by omega))]

/-- A lower SP brings nothing into reach. -/
theorem Agrees.setSp (h : Agrees s d) {a : Int} (hle : a ≤ s.spI) (ha : s.oksp a = true) : Agrees (s.setSp a) d := by
  refine ⟨h.sound.setSp ha, h.other_sound.setSp ha, fun x hx => h.byte_eq x ?_⟩
  simp only [State.oksp, Bool.and_eq_true, decide_eq_true_eq] at ha
  have := adr_nonneg s.lb
  have := h.sound.maxdata_bounds
  have := h.sound.hp_le
  have hsp : (s.setSp a).spI = a := State.spI_setSp s (by unfold State.lbI at ha; omega) (by omega)
  rw [State.reaches_iff] at hx ⊢
  rw [hsp] at hx
  change 0 ≤ x ∧ x ≤ s.maxdata ∧ (x ≤ a + 1 ∨ s.hpI ≤ x) at hx
  omega

/-- A word written, wherever it is. -/
theorem Agrees.putWord (h : Agrees s d) {a : Int} (ha : s.okword a = true) (v : Int) :
    Agrees (s.putWord a v) ((s.withData d).putWord a v).data := by
  refine ⟨h.sound.putWord ha v, h.other_sound.putWord ha v, fun x hx => ?_⟩
  have hx : s.reaches x = true := hx
  have h0 := ((s.reaches_iff x).1 hx).1
  have ha0 := ((s.okword_iff a).1 ha).2.1
  show ((s.withData d).putWord a v).byte x = _
  rw [State.byte_putWord ((State.wf_iff_sound _).2 h.sound) ha0 h0,
    State.byte_putWord ((State.wf_iff_sound _).2 h.other_sound) ha0 h0, h.byte_eq x hx]

theorem State.Sound.spI_pushed (h : s.Sound) (hr : s.room 2 = true) (v : Int) : (s.pushed v).spI = s.spI + 2 := by
  have hlt : s.spI + 2 < s.hpI := of_decide_eq_true hr
  have := s.spI_ge
  have := h.maxdata_bounds
  have := h.hp_le
  exact State.spI_setSp s (by omega) (by omega)

theorem State.Sound.push_eq (h : s.Sound) (hr : s.room 2 = true) (v : Int) : push v s = .ok () (s.pushed v) := by
  rw [push_spec ((State.wf_iff_sound s).2 h), hr]
  rfl

theorem State.Sound.pushed (h : s.Sound) (hr : s.room 2 = true) (v : Int) : (s.pushed v).Sound :=
  sound_of_ok (push_within v) h (h.push_eq hr v)

theorem State.Sound.byte_pushed (h : s.Sound) (v : Int) {x : Int} (hx : 0 ≤ x) : (s.pushed v).byte x =
    if x = s.spI + 2 + 1 then highByte (u16 v) else if x = s.spI + 2 then lowByte (u16 v) else s.byte x := by
  have := s.spI_ge
  exact State.byte_putWord ((State.wf_iff_sound s).2 h) (by omega) hx v

/-- A push brings the word it writes into reach, and nothing else. -/
theorem Agrees.pushed (h : Agrees s d) (hr : s.room 2 = true) (v : Int) :
    Agrees (s.pushed v) ((s.withData d).pushed v).data := by
  refine ⟨h.sound.pushed hr v, h.other_sound.pushed hr v, fun x hx => ?_⟩
  rw [State.reaches_iff, h.sound.spI_pushed hr] at hx
  change 0 ≤ x ∧ x ≤ s.maxdata ∧ (x ≤ s.spI + 2 + 1 ∨ s.hpI ≤ x) at hx
  change ((s.withData d).pushed v).byte x = _
  rw [h.sound.byte_pushed v hx.1, h.other_sound.byte_pushed v hx.1]
  change (if x = s.spI + 2 + 1 then _ else if x = s.spI + 2 then _ else (s.withData d).byte x) = _
  split
  · rfl
  · split
    · rfl
    · exact h.byte_eq x ((s.reaches_iff x).2 (by omega))

end

/-! ## Statements that do not see what is out of reach -/

/-- Where these statements go on from `s`, they go on alike from any state that agrees with `s`. -/
def Blind {α : Type} (m : Op α) (s : State) : Prop :=
  ∀ d a t, Agrees s d → m s = .ok a t → ∃ e, m (s.withData d) = .ok a (t.withData e) ∧ Agrees t e

section
variable {α β : Type} {s : State}

theorem blind_pure (a : α) : Blind (pure a) s := by
  intro d b t hd h
  cases h
  exact ⟨d, rfl, hd⟩

theorem blind_bind {m : Op α} {f : α → Op β} (hm : Blind m s) (hf : ∀ a t, m s = .ok a t → Blind (f a) t) :
    Blind (m >>= f) s := by
  intro d b u hd h
  obtain ⟨a, t, ha, hb⟩ := Op.ok_of_bind_ok h
  obtain ⟨e, hma, he⟩ := hm d a t hd ha
  obtain ⟨g, hfb, hg⟩ := hf a t ha e b u he hb
  exact ⟨g, (Op.bind_of_ok hma).trans hfb, hg⟩

theorem blind_seq {m : Op α} {f : α → Op β} (hm : Blind m s) (hf : ∀ a t, Blind (f a) t) : Blind (m >>= f) s :=
  blind_bind hm fun a t _ => hf a t

/-- The rest of a sequence may look at all of the state but its data. -/
theorem blind_get {f : State → Op β} (hf : ∀ d, f (s.withData d) = f s) (h : Blind (f s) s) :
    Blind ((get : Op State) >>= f) s := by
  intro d b t hd ht
  rw [Op.get_bind] at ht
  rw [Op.get_bind, hf]
  exact h d b t hd ht

theorem blind_ite {c : Prop} [Decidable c] {m m' : Op α} (hm : c → Blind m s) (hm' : ¬ c → Blind m' s) :
    Blind (if c then m else m') s := by
  split
  · next h => exact hm h
  · next h => exact hm' h

/-- A test that does not look at the data, then one update. -/
theorem blind_tested {m : Op α} {c : State → Bool} {a : State → α} {u v : State → State}
    (hm : ∀ s, m s = if c s then .ok (a s) (u s) else .error () (v s)) (hc : ∀ d, c (s.withData d) = c s)
    (ha : c s = true → ∀ d, Agrees s d → a (s.withData d) = a s)
    (hu : c s = true → ∀ d, Agrees s d → ∃ e, u (s.withData d) = (u s).withData e ∧ Agrees (u s) e) : Blind m s := by
  intro d b t hd h
  rw [hm] at h
  split at h
  · next hok =>
    cases h
    obtain ⟨e, hue, he⟩ := hu hok d hd
    exact ⟨e, by rw [hm, hc, if_pos hok, ha hok d hd, hue], he⟩
  · cases h

/-! ## Traps and registers (R12 to R16) -/

theorem Agrees.raise {d : Memory} (h : Agrees s d) (n : Byte) : Agrees (s.raise n) d :=
  ⟨{ h.sound with }, { h.other_sound with }, h.byte_eq⟩

theorem blind_trap (n : Byte) : Blind (trap n) s := by
  refine blind_tested (c := fun s => !(isFatal n || s.defaultHandling)) (a := fun _ => ()) (u := fun s => s.raise n)
    (v := fun s => s.stopped (.aborted n)) (fun s => ?_) (fun _ => rfl) (fun _ _ _ => rfl)
    fun _ d hd => ⟨d, rfl, hd.raise n⟩
  rw [trap_spec]
  cases isFatal n || s.defaultHandling <;> rfl

theorem blind_require (c : Bool) (n : Byte) : Blind (require c n) s := by
  cases c with
  | true => exact blind_pure ()
  | false => exact blind_trap n

/-- Behind a test whose failure is fatal the test has succeeded. -/
theorem blind_checked {w : Int} {c : Bool} {n : Byte} (hn : isFatal n = true) {f : Int → Op β}
    (h : c = true → Blind (f w) s) : Blind ((require c n >>= fun _ => pure w) >>= f) s := by
  cases c with
  | true => exact h rfl
  | false =>
    intro d b t _ ht
    rw [Op.bind_of_error (Op.bind_of_error (require_of_fatal hn rfl s))] at ht
    cases ht

theorem blind_newpc (a : Int) : Blind (newpc a) s :=
  blind_tested (newpc_spec a) (fun _ => rfl) (fun _ _ _ => rfl)
    fun hok d hd => ⟨d, rfl, hd.sound.setPc hok, hd.other_sound.setPc hok, hd.byte_eq⟩

theorem blind_newsp {a : Int} (ha : a ≤ s.spI) : Blind (newsp a) s :=
  blind_tested (newsp_spec a) (fun _ => rfl) (fun _ _ _ => rfl) fun hok d hd => ⟨d, rfl, hd.setSp ha hok⟩

theorem blind_newlb {a : Int} (h0 : 0 ≤ a) : Blind (newlb a) s :=
  blind_tested (newlb_spec a) (fun _ => rfl) (fun _ _ _ => rfl)
    fun hok d hd => ⟨d, rfl, hd.sound.setLb h0 hok, hd.other_sound.setLb h0 hok, hd.byte_eq⟩

theorem blind_setNormalmap (b : Bool) : Blind (setNormalmap b) s := by
  intro d u t hd h
  cases h
  exact ⟨d, rfl, { hd.sound with }, { hd.other_sound with }, hd.byte_eq⟩

/-! ## Reads and stores -/

theorem blind_memb (a : Int) : Blind (memb a) s :=
  blind_tested (memb_spec a) (fun _ => rfl) (fun hok d hd => by rw [hd.byte_eq_of_okadr hok])
    fun _ d hd => ⟨d, rfl, hd⟩

theorem blind_mema (a : Int) : Blind (mema a) s :=
  blind_tested (mema_spec a) (fun _ => rfl) (fun hok d hd => by rw [hd.word_eq hok]) fun _ d hd => ⟨d, rfl, hd⟩

theorem blind_memw (a : Int) : Blind (memw a) s :=
  blind_tested (memw_spec a) (fun _ => rfl) (fun hok d hd => by rw [hd.word_eq hok]) fun _ d hd => ⟨d, rfl, hd⟩

theorem blind_store (a v : Int) : Blind (store a v) s :=
  blind_tested (store_spec a v) (fun _ => rfl) (fun _ _ _ => rfl) fun hok _ hd => ⟨_, rfl, hd.putWord hok v⟩

theorem mema_ok {a v : Int} {t : State} (h : mema a s = .ok v t) : t = s := by
  rw [mema_spec] at h
  split at h
  · cases h
    rfl
  · cases h

theorem memw_ok {a v : Int} {t : State} (h : memw a s = .ok v t) : t = s := by
  rw [memw_spec] at h
  split at h
  · cases h
    rfl
  · cases h

theorem trap_ok {n : Byte} {t : State} (h : trap n s = .ok () t) : t = s.raise n := by
  rw [trap_spec] at h
  split at h
  · cases h
  · cases h
    rfl

/-! ## The stack (R15) -/

theorem blind_push (v : Int) : Blind (push v) s := by
  intro d a t hd h
  obtain ⟨rfl, hr⟩ := push_ok ((State.wf_iff_sound s).2 hd.sound) h
  exact ⟨_, hd.other_sound.push_eq hr v, hd.pushed hr v⟩

theorem blind_popw : Blind popw s :=
  blind_get (fun _ => rfl) <| blind_bind (blind_memw _) fun r t ht => by
    obtain rfl := memw_ok ht
    exact blind_seq (blind_newsp (by omega)) fun _ _ => blind_pure r

theorem blind_popa : Blind popa s :=
  blind_get (fun _ => rfl) <| blind_bind (blind_mema _) fun r t ht => by
    obtain rfl := mema_ok ht
    exact blind_seq (blind_newsp (by omega)) fun _ _ => blind_pure r

end

section
variable (s : State)

theorem blind_pushTimes (v : Int) (n : Nat) : ∀ s, Blind (pushTimes v n) s := by
  induction n with
  | zero => exact fun _ => blind_pure ()
  | succ n ih => exact fun _ => blind_seq (blind_push v) fun _ => ih

theorem blind_pushWords (n : Nat) : ∀ a s, Blind (pushWords n a) s := by
  induction n with
  | zero => exact fun _ _ => blind_pure ()
  | succ n ih => exact fun a _ => blind_seq (blind_memw a) fun w _ => blind_seq (blind_push w) fun _ => ih _

theorem blind_pushx (size a : Int) : Blind (pushx size a) s :=
  blind_ite (fun _ => blind_seq (blind_memb a) fun b _ => blind_push b)
    fun _ => blind_seq (blind_require _ _) fun _ _ => blind_pushWords _ a _

/-! ## Loops -/

theorem blind_followLinks (n : Nat) : ∀ a s, Blind (followLinks n a) s := by
  induction n with
  | zero => exact fun a _ => blind_pure a
  | succ n ih => exact fun a _ => blind_seq (blind_mema _) ih

theorem blind_moveWords (n : Nat) : ∀ t a s, Blind (moveWords n t a) s := by
  induction n with
  | zero => exact fun _ _ _ => blind_pure ()
  | succ n ih => exact fun t a _ => blind_seq (blind_memw a) fun w _ => blind_seq (blind_store t w) fun _ => ih _ _

theorem blind_logicalWords (op : Word → Word → Word) (k : Int) (n : Nat) : ∀ s, Blind (logicalWords op k n) s := by
  induction n with
  | zero => exact fun _ => blind_pure ()
  | succ n ih =>
    exact fun _ => blind_seq blind_popw fun _ _ => blind_get (fun _ => rfl) <| blind_seq (blind_memw _) fun _ _ =>
      blind_seq (blind_store _ _) fun _ => ih

theorem blind_complementWords (n : Nat) : ∀ a s, Blind (complementWords n a) s := by
  induction n with
  | zero => exact fun _ _ => blind_pure ()
  | succ n ih => exact fun a _ => blind_seq (blind_memw a) fun _ _ => blind_seq (blind_store a _) fun _ => ih _

theorem blind_blockcmpWords (k : Int) (n : Nat) : ∀ j s, Blind (blockcmpWords k n j) s := by
  induction n with
  | zero => exact fun _ _ => blind_pure 0
  | succ n ih =>
    exact fun j _ => blind_get (fun _ => rfl) <| blind_seq (blind_mema _) fun _ _ => blind_seq (blind_mema _) fun _ _ =>
      blind_ite (fun _ => blind_pure _) fun _ => blind_ite (fun _ => blind_pure _) fun _ => ih _ _

theorem blind_duplicateWords (k : Int) (n : Nat) : ∀ s, Blind (duplicateWords k n) s := by
  induction n with
  | zero => exact fun _ => blind_pure ()
  | succ n ih =>
    exact fun _ => blind_get (fun _ => rfl) <| blind_seq (blind_memw _) fun w _ => blind_seq (blind_push w) fun _ => ih

/-! ## Instructions behind their operand -/

theorem isP_pos {k : Int} (h : isP k = true) : 0 < k := by
  simp only [isP, Bool.and_eq_true, decide_eq_true_eq] at h
  omega

theorem blind_logical (op : Word → Word → Word) (k : Int) : Blind (logical op k) s :=
  blind_checked (by decide) fun _ => blind_logicalWords op k _ s

theorem blind_complement (k : Int) : Blind (complement k) s :=
  blind_checked (by decide) fun _ => blind_get (fun _ => rfl) (blind_complementWords _ _ s)

theorem blind_testBit (k : Int) : Blind (testBit k) s :=
  blind_checked (by decide) fun hk => blind_seq blind_popw fun n t => blind_get (fun _ => rfl) <|
    have hpos := isP_pos hk
    blind_ite
      (fun _ => blind_bind (blind_trap _) fun _ u hu => by
        obtain rfl := trap_ok hu
        exact blind_seq (blind_newsp (show t.spI - k ≤ t.spI by omega)) fun _ _ => blind_push 0)
      fun _ => blind_bind (blind_memw _) fun w u hu => by
        obtain rfl := memw_ok hu
        exact blind_seq (blind_newsp (by omega)) fun _ _ => blind_push _

theorem blind_blockcmp (k : Int) : Blind (blockcmp k) s :=
  blind_checked (by decide) fun hk => blind_seq (blind_blockcmpWords k _ 0 s) fun v t => blind_get (fun _ => rfl) <|
    have hpos := isP_pos hk
    blind_seq (blind_newsp (by omega)) fun _ _ => blind_push v

theorem blind_reserve (k : Int) : Blind (reserve k) s :=
  blind_checked (by decide) fun _ => blind_get (fun _ => rfl) <|
    blind_ite (fun _ => blind_pushTimes _ _ s) fun _ => blind_newsp (by omega)

theorem blind_blockMove (k : Int) : Blind (blockMove k) s :=
  blind_checked (by decide) fun _ => blind_seq blind_popa fun t _ => blind_seq blind_popa fun a _ =>
    blind_moveWords _ t a _

theorem blind_duplicate (k : Int) : Blind (duplicate k) s :=
  blind_checked (by decide) fun _ => blind_duplicateWords k _ s

theorem blind_mark (normal : Bool) (k : Int) : Blind (mark normal k) s :=
  blind_checked (by decide) fun _ => blind_get (fun _ => rfl) <| blind_seq (blind_followLinks _ _ s) fun a _ =>
    blind_seq (blind_push a) fun _ _ => blind_seq (blind_push _) fun _ _ => blind_seq (blind_push 0) fun _ _ =>
      blind_setNormalmap normal

end

/-! ## Leaving a procedure (R357) -/

theorem store_ok {a v : Int} {s t : State} (h : store a v s = .ok () t) : s.okword a = true ∧ t = s.putWord a v := by
  rw [store_spec] at h
  split at h
  · next hok =>
    cases h
    exact ⟨hok, rfl⟩
  · cases h

/-- Words moved to the stack end in the stack: behind it there is a gap (R64). -/
theorem moveWords_in_stack {n : Nat} : ∀ {dst src : Int} {s t : State}, s.room 2 = true → dst ≤ s.spI + 2 →
    moveWords n dst src s = .ok () t → t.spI = s.spI ∧ dst + 2 * n ≤ s.spI + 2 := by
  induction n with
  | zero =>
    intro dst src s t _ hdst h
    cases h
    exact ⟨rfl, by omega⟩
  | succ n ih =>
    intro dst src s t hr hdst h
    obtain ⟨w, u, hw, hrest⟩ := Op.ok_of_bind_ok h
    obtain rfl := memw_ok hw
    obtain ⟨_, v, hv, hrest⟩ := Op.ok_of_bind_ok hrest
    obtain ⟨hok, rfl⟩ := store_ok hv
    have hlt : u.spI + 2 < u.hpI := of_decide_eq_true hr
    obtain ⟨_, _, _, hin⟩ := (State.okword_iff u dst).1 hok
    obtain ⟨hsp, hend⟩ := ih (s := u.putWord dst w) hr (show dst + 2 ≤ u.spI + 2 by omega) hrest
    exact ⟨hsp, by rw [State.putWord_spI] at hend; omega⟩

/-- Leaving a procedure lowers SP: the result lies in the stack. -/
theorem blind_leave {s : State} (hs : s.Sound) (hr : s.room 2 = true) (k : Int) : Blind (leave k) s :=
  blind_checked (by decide) fun hk => blind_get (fun _ => rfl) <| blind_bind (blind_mema _) fun ret t ht => by
    obtain rfl := mema_ok ht
    refine blind_bind (blind_newpc ret) fun _ u hu => ?_
    obtain ⟨_, rfl⟩ := newpc_ok hu
    refine blind_bind (blind_mema _) fun link v hlink => ?_
    obtain rfl := mema_ok hlink
    refine blind_bind (blind_newlb (mema_nonneg hlink)) fun _ w hw => ?_
    obtain ⟨_, rfl⟩ := newlb_ok hw
    refine blind_bind (blind_moveWords _ _ _ _) fun _ x hx => blind_newsp ?_
    have hlb := hs.lb_le
    obtain ⟨hsp, hend⟩ := moveWords_in_stack (s := (t.setPc ret).setLb link) hr
      (show t.lbI - Config.mrksize ≤ t.spI + 2 by unfold Config.mrksize; omega) hx
    change t.lbI - Config.mrksize + 2 * ((k / 2).toNat : Int) ≤ t.spI + 2 at hend
    change x.spI = t.spI at hsp
    simp only [isX, Bool.and_eq_true, decide_eq_true_eq] at hk
    omega

/-! ## LOI (R211, R212) -/

/-- LOI and LOS once the size is known. -/
def loadIndirect (k : Int) : Op Unit := do
  let y ← argy k
  let p ← popa
  pushx y p

theorem exec_loi (k : Int) (s : State) : exec (.loi k) s = runOp (loadIndirect k) s := rfl

theorem exec_los (s : State) : exec .los s = runOp (popa >>= loadIndirect) s := rfl

theorem blind_loadIndirect (k : Int) (s : State) : Blind (loadIndirect k) s :=
  blind_checked (by decide) fun _ => blind_seq blind_popa fun p t => blind_pushx t k p

theorem loadIndirect_within {K : Guarded → Prop} (k : Int) : Within K (loadIndirect k) :=
  within_seq (argy_within k) fun y => within_seq popa_within fun p => pushx_within y p

end Sys2Proof.Machine
end

section
/-! The replacement sequences (R190 to R197): the immediate forms are their stacked forms behind a LOC, the
compare-and-branch instructions CMI and a branch on its result, three tests are two others. -/

namespace Sys2Proof.Machine

/-! ## Sequences of instructions -/

/-- The first of two instructions completes; the second decides what the sequence does. -/
theorem execAll_pair {i j : Instr} {s t u : State} (hi : exec i s = .next t) (hrun : t.status = .running)
    (hpending : t.pending = s.pending) (hj : exec j t = .next u) : execAll [i, j] s = .next u := by
  simp only [execAll, hi, hrun, hpending, hj, and_self, if_true, ite_self]

/-! ## A word pushed and popped again -/

/-- The state with the word above the top of the stack written. -/
def State.wroteAbove (s : State) (v : Int) : State := s.putWord (s.spI + 2) v

section
variable {s : State} (h : s.Sound) (hr : s.room 2 = true)
include h hr

theorem State.Sound.pushed_has (v : Int) : (s.pushed v).has 2 = true := by
  rw [State.has_iff, h.spI_pushed hr]
  have := h.lb_le
  change s.lbI ≤ _
  omega

theorem State.Sound.drop_pushed (v : Int) : (s.pushed v).drop 2 = s.wroteAbove v := by
  rw [State.drop, h.spI_pushed hr, Int.add_sub_cancel]
  exact congrArg (fun t : State => t.putWord (s.spI + 2) v) (State.setSp_spI s)

theorem State.Sound.word_pushed (v : Int) : (s.pushed v).word (s.pushed v).spI = u16 v := by
  have := s.spI_ge
  rw [h.spI_pushed hr]
  exact State.word_putWord_same ((State.wf_iff_sound s).2 h) (by omega) v

theorem State.Sound.popw_pushed {v : Int} (h0 : -32768 ≤ v) (h1 : v ≤ 32767) :
    popw (s.pushed v) = .ok v (s.wroteAbove v) := by
  have htop : (s.pushed v).top 0 = v := by
    rw [State.top, Int.mul_zero, Int.sub_zero, h.word_pushed hr, s16_u16 h0 h1]
  rw [popw_spec ((State.wf_iff_sound _).2 (h.pushed hr v)) (h.pushed_has hr v), htop, h.drop_pushed hr]

theorem State.Sound.popa_pushed {v : Int} (h0 : 0 ≤ v) (h1 : v < 65536) :
    popa (s.pushed v) = .ok v (s.wroteAbove v) := by
  have htop : (s.pushed v).topA 0 = v := by
    rw [State.topA, Int.mul_zero, Int.sub_zero, h.word_pushed hr, adr_u16 h0 h1]
  rw [popa_spec ((State.wf_iff_sound _).2 (h.pushed hr v)) (h.pushed_has hr v), htop, h.drop_pushed hr]

/-- The word above the top of the stack is out of reach. -/
theorem State.Sound.agrees_wroteAbove (v : Int) : Agrees s (s.wroteAbove v).data := by
  have hw := (State.wf_iff_sound s).2 h
  have hsound : (s.wroteAbove v).Sound := by
    rw [← h.drop_pushed hr]
    exact (State.wf_iff_sound _).1 (State.drop_wf ((State.wf_iff_sound _).2 (h.pushed hr v)) (by decide) (by decide)
      (h.pushed_has hr v)).1
  refine ⟨h, hsound, fun x hx => ?_⟩
  have hlt : s.spI + 2 < s.hpI := of_decide_eq_true hr
  have := s.spI_ge
  have := h.sp_even
  have := h.hp_even
  rw [State.reaches_iff] at hx
  change (s.putWord (s.spI + 2) v).byte x = s.byte x
  rw [State.byte_putWord hw (by omega) hx.1, if_neg (by omega), if_neg (by omega)]

end

/-! ## Immediate forms (R190, R191) -/

theorem exec_loc {s : State} (h : s.Sound) (hr : s.room 2 = true) (k : Int) : exec (.loc k) s = .next (s.pushed k) :=
  runOp_of_ok (h.push_eq hr k)

/-- An outcome that still runs is the end of the statements. -/
theorem ok_of_runOp_running {m : Op Unit} (hm : Within anyUpdate m) {s t : State} (h : runOp m s = .next t)
    (hrun : t.status = .running) : m s = .ok () t := by
  have hs := hm s
  cases hr : m s with
  | ok _ u =>
    rw [runOp_of_ok hr] at h
    cases h
    rfl
  | error _ u =>
    rw [hr] at hs
    obtain ⟨v, st, _, hst, rfl⟩ := hs
    rw [runOp_of_error hr] at h
    cases h
    exact absurd hrun hst

/-- A stacked form behind a LOC does what the immediate form does, and leaves the operand above the stack. -/
theorem stacked_behind_loc {s t : State} {k : Int} {i j : Instr} {pop : Op Int} {m : Int → Op Unit} (h : s.Sound)
    (hr : s.room 2 = true) (hrun : s.status = .running) (hpop : pop (s.pushed k) = .ok k (s.wroteAbove k))
    (hi : exec i s = runOp (m k) s) (hj : exec j (s.pushed k) = runOp (pop >>= m) (s.pushed k))
    (hm : Within anyUpdate (m k)) (hblind : Blind (m k) s) (ht : exec i s = .next t) (htrun : t.status = .running) :
    ∃ u, execAll [.loc k, j] s = .next u ∧ sameVisible t u := by
  obtain ⟨e, he, hagrees⟩ := hblind _ _ _ (h.agrees_wroteAbove hr k) (ok_of_runOp_running hm (hi.symm.trans ht) htrun)
  have hstacked : exec j (s.pushed k) = .next (t.withData e) := hj.trans (runOp_of_ok ((Op.bind_of_ok hpop).trans he))
  exact ⟨_, execAll_pair (exec_loc h hr k) hrun rfl hstacked, hagrees.sameVisible⟩

theorem isY_pos {k : Int} (h : isY k = true) : 0 < k := by
  simp only [isY, Bool.or_eq_true, decide_eq_true_eq] at h
  obtain rfl | hp := h
  · decide
  · exact isP_pos hp

/-- A size that LOI goes on with is one or even and positive, so that LOS pops it as it was pushed. -/
theorem isY_of_loi_running {s t : State} {k : Int} (ht : exec (.loi k) s = .next t) (htrun : t.status = .running) :
    isY k = true := by
  by_contra hk
  have hstop : exec (.loi k) s = .next (s.abort EILLINS) :=
    exec_of_first_stops (argy_rejects (Bool.eq_false_iff.2 hk) s) rfl
  cases hstop.symm.trans ht
  cases htrun

/-! ## Compare and branch (R193, R194) -/

theorem branchIf_spec (c : Bool) (k : Int) (s : State) : branchIf c k s =
    if c then (if isN k then newpc (s.pcI + k) s else .error () (s.abort EILLINS)) else .ok () s := by
  unfold branchIf
  cases c with
  | false => rfl
  | true =>
    cases hk : isN k with
    | true => exact (Op.bind_of_ok (show argn k s = .ok k s by unfold argn; rw [hk]; rfl)).trans (Op.get_bind _ s)
    | false => exact Op.bind_of_error (argn_rejects hk s)

theorem Agrees.sameVisible_abort {s : State} {d : Memory} (h : Agrees s d) (n : Byte) :
    Machine.sameVisible (s.abort n) ((s.withData d).abort n) := ⟨rfl, fun a ha => (h.byte_eq a ha).symm⟩

/-- A branch does not look at the data, whether it goes on or stops. -/
theorem branchIf_agrees {s : State} {d : Memory} (h : Agrees s d) (c : Bool) (k : Int) : ∃ t u,
    runOp (branchIf c k) s = .next t ∧ runOp (branchIf c k) (s.withData d) = .next u ∧ sameVisible t u := by
  have hs := branchIf_spec c k s
  have hd := branchIf_spec c k (s.withData d)
  cases c with
  | false => exact ⟨_, _, runOp_of_ok hs, runOp_of_ok hd, h.sameVisible⟩
  | true =>
    cases hk : isN k with
    | false =>
      rw [hk] at hs hd
      exact ⟨_, _, runOp_of_error hs, runOp_of_error hd, h.sameVisible_abort EILLINS⟩
    | true =>
      rw [hk] at hs hd
      by_cases hpc : s.okpc (s.pcI + k) = true
      · obtain ⟨e, hnew, he⟩ := blind_newpc (s.pcI + k) d () (s.setPc (s.pcI + k)) h (if_pos hpc)
        exact ⟨_, _, runOp_of_ok (hs.trans (if_pos hpc)), runOp_of_ok (hd.trans hnew), he.sameVisible⟩
      · exact ⟨_, _, runOp_of_error (hs.trans (if_neg hpc)), runOp_of_error (hd.trans (if_neg hpc)),
          h.sameVisible_abort EPC⟩

theorem compareInt_cases (a b : Int) :
    a < b ∧ compareInt a b = -1 ∨ a = b ∧ compareInt a b = 0 ∨ b < a ∧ compareInt a b = 1 := by
  unfold compareInt
  split_ifs <;> omega

theorem compareInt_lt_zero (a b : Int) : compareInt a b < 0 ↔ a < b := by have := compareInt_cases a b; omega
theorem compareInt_le_zero (a b : Int) : compareInt a b ≤ 0 ↔ a ≤ b := by have := compareInt_cases a b; omega
theorem compareInt_eq_zero (a b : Int) : compareInt a b = 0 ↔ a = b := by have := compareInt_cases a b; omega
theorem compareInt_ge_zero (a b : Int) : compareInt a b ≥ 0 ↔ a ≥ b := by have := compareInt_cases a b; omega
theorem compareInt_gt_zero (a b : Int) : compareInt a b > 0 ↔ a > b := by have := compareInt_cases a b; omega

/-- A compare-and-branch instruction branches as CMI and the branch on its result do. -/
theorem branch_behind_cmi {s : State} {n : Int} {i z : Instr} {p : Int → Int → Bool} {q : Int → Bool} (h : s.wf = true)
    (hrun : s.status = .running) (h4 : s.has 4 = true)
    (hi : exec i s = runOp (popWordPair >>= fun x => branchIf (p x.1 x.2) n) s)
    (hz : ∀ u, exec z u = runOp (popw >>= fun w => branchIf (q w) n) u) (hpq : ∀ a b, q (compareInt a b) = p a b) :
    ∃ t u, exec i s = .next t ∧ execAll [.cmi, z] s = .next u ∧ sameVisible t u := by
  obtain ⟨hw, he⟩ := State.drop_wf h (by decide) (by decide) h4
  have hsound := (State.wf_iff_sound _).1 hw
  have hr : (s.drop 4).room 2 = true := by
    have := State.wf_registers h
    have hhp : (s.drop 4).hpI = s.hpI := rfl
    exact decide_eq_true (by omega)
  have hresult := compareInt_cases (s.top 1) (s.top 0)
  obtain ⟨t, u, ht, hu, htu⟩ := branchIf_agrees (hsound.agrees_wroteAbove hr (compareInt (s.top 1) (s.top 0)))
    (p (s.top 1) (s.top 0)) n
  have hcmi : exec .cmi s = .next ((s.drop 4).pushed (compareInt (s.top 1) (s.top 0))) :=
    runOp_of_ok ((Op.bind_of_ok (popWordPair_spec h h4)).trans (hsound.push_eq hr _))
  have hbranch : exec z ((s.drop 4).pushed (compareInt (s.top 1) (s.top 0))) = .next u := by
    rw [hz, runOp_congr (Op.bind_of_ok (hsound.popw_pushed hr (by omega) (by omega))), hpq]
    exact hu
  refine ⟨t, u, ?_, execAll_pair hcmi hrun rfl hbranch, htu⟩
  rw [hi, runOp_congr (Op.bind_of_ok (popWordPair_spec h h4))]
  exact ht

/-! ## Tests (R195) -/

/-- A word written twice is the word written last. -/
theorem Memory.writeWord_writeWord {m : Memory} (h : m.wf = true) (a : Nat) (v w : Word) :
    (m.writeWord a v).writeWord a w = m.writeWord a w := by
  refine Memory.eq_of_read _ _ none (Memory.wf_writeWord _ _ _ (Memory.wf_writeWord _ _ _ h))
    (Memory.wf_writeWord _ _ _ h) fun x => ?_
  have hv := Memory.wf_write m a (lowByte v) h
  have hvv := Memory.wf_write _ (a + 1) (highByte v) hv
  simp only [Memory.writeWord, Memory.read_write _ (Memory.wf_write _ _ _ hvv), Memory.read_write _ hvv,
    Memory.read_write _ hv, Memory.read_write _ (Memory.wf_write m a (lowByte w) h), Memory.read_write _ h]
  split_ifs <;> rfl

theorem State.Sound.pushed_wroteAbove {s : State} (h : s.Sound) (v w : Int) : (s.wroteAbove v).pushed w = s.pushed w :=
  congrArg (State.withData (s.setSp (s.spI + 2))) (Memory.writeWord_writeWord h.data_wf _ _ _)

theorem ofBool_bounds (b : Bool) : 0 ≤ ofBool b ∧ ofBool b ≤ 1 := by cases b <;> decide

theorem decide_ofBool_eq_zero (b : Bool) : decide (ofBool b = 0) = !b := by cases b <;> rfl

/-- TEQ behind a test is the test that holds where that one does not. -/
theorem teq_behind_test {s : State} {i j : Instr} {p q : Int → Bool} (h : s.wf = true) (hrun : s.status = .running)
    (h2 : s.has 2 = true) (hi : exec i s = runOp (popw >>= fun w => push (ofBool (p w))) s)
    (hj : exec j s = runOp (popw >>= fun w => push (ofBool (q w))) s) (hpq : ∀ w, (!p w) = q w) :
    execAll [i, .teq] s = exec j s := by
  obtain ⟨hw, he⟩ := State.drop_wf h (by decide) (by decide) h2
  have hsound := (State.wf_iff_sound _).1 hw
  have hr : (s.drop 2).room 2 = true := by
    have := State.wf_registers h
    have hhp : (s.drop 2).hpI = s.hpI := rfl
    exact decide_eq_true (by omega)
  have htest (b : Int → Bool) : runOp (popw >>= fun w => push (ofBool (b w))) s
      = .next ((s.drop 2).pushed (ofBool (b (s.top 0)))) :=
    runOp_of_ok ((Op.bind_of_ok (popw_spec h h2)).trans (hsound.push_eq hr _))
  obtain ⟨hlow, hhigh⟩ := ofBool_bounds (p (s.top 0))
  have hagrees := hsound.agrees_wroteAbove hr (ofBool (p (s.top 0)))
  have hteq : exec .teq ((s.drop 2).pushed (ofBool (p (s.top 0)))) = .next ((s.drop 2).pushed (ofBool (q (s.top 0)))) := by
    refine runOp_of_ok ((Op.bind_of_ok (hsound.popw_pushed hr (by omega) (by omega))).trans ?_)
    rw [decide_ofBool_eq_zero, hpq, ← hsound.pushed_wroteAbove (ofBool (p (s.top 0)))]
    exact hagrees.other_sound.push_eq hr _
  rw [execAll_pair (hi.trans (htest p)) hrun rfl hteq, hj, htest q]

/-! ## The statement about replacement sequences -/

/-- Settles O58: the branches on the result of a compare agree with the compares, the immediate forms do not see the
operand their stacked forms leave above the stack, and TEQ negates a test. -/
theorem kernelReplacements : Obligations.KernelReplacements := by
  refine ⟨?_, ?_, ?_⟩
  · intro s n i is h hrun h4 hi his
    have behind {z : Instr} (p : Int → Int → Bool) {q : Int → Bool} := branch_behind_cmi (n := n) (i := i) (z := z)
      (p := p) (q := q) h hrun h4
    rcases hi with rfl | rfl | rfl | rfl | rfl | rfl <;> cases his
    · exact behind (fun a b => decide (a < b)) rfl (fun _ => rfl) fun a b => decide_eq_decide.2 (compareInt_lt_zero a b)
    · exact behind (fun a b => decide (a ≤ b)) rfl (fun _ => rfl) fun a b => decide_eq_decide.2 (compareInt_le_zero a b)
    · exact behind (fun a b => decide (a = b)) rfl (fun _ => rfl) fun a b => decide_eq_decide.2 (compareInt_eq_zero a b)
    · exact behind (fun a b => decide (a ≠ b)) rfl (fun _ => rfl) fun a b =>
        decide_eq_decide.2 (not_congr (compareInt_eq_zero a b))
    · exact behind (fun a b => decide (a ≥ b)) rfl (fun _ => rfl) fun a b => decide_eq_decide.2 (compareInt_ge_zero a b)
    · exact behind (fun a b => decide (a > b)) rfl (fun _ => rfl) fun a b => decide_eq_decide.2 (compareInt_gt_zero a b)
  · intro s t k i is h hr h0 h1 hrun hi his ht htrun
    have hs := (State.wf_iff_sound s).1 h
    have behind {j : Instr} {m : Int → Op Unit} := stacked_behind_loc (t := t) (i := i) (j := j) (m := m) hs hr hrun
      (hs.popw_pushed hr h0 h1)
    rcases hi with rfl | rfl | rfl | rfl | rfl | rfl | rfl | rfl | rfl | rfl | rfl | rfl <;> cases his
    · exact behind rfl rfl (logical_within _ k) (blind_logical s _ k) ht htrun
    · exact behind rfl rfl (logical_within _ k) (blind_logical s _ k) ht htrun
    · exact behind rfl rfl (logical_within _ k) (blind_logical s _ k) ht htrun
    · exact behind rfl rfl (complement_within k) (blind_complement s k) ht htrun
    · exact behind rfl rfl (testBit_within trivial k) (blind_testBit s k) ht htrun
    · exact behind rfl rfl (blockcmp_within k) (blind_blockcmp s k) ht htrun
    · exact behind rfl rfl (reserve_within k) (blind_reserve s k) ht htrun
    · exact behind rfl rfl (blockMove_within k) (blind_blockMove s k) ht htrun
    · exact behind rfl rfl (duplicate_within k) (blind_duplicate s k) ht htrun
    · exact behind rfl rfl (mark_within trivial k) (blind_mark s true k) ht htrun
    · exact behind rfl rfl (leave_within k) (blind_leave hs hr k) ht htrun
    · have hpos := isY_pos (isY_of_loi_running ht htrun)
      exact stacked_behind_loc hs hr hrun (hs.popa_pushed hr (by omega) (by omega)) (exec_loi k s) (exec_los _)
        (loadIndirect_within k) (blind_loadIndirect k s) ht htrun
  · intro s i is h hrun h2 hi his
    have behind {j : Instr} {p q : Int → Bool} := teq_behind_test (i := j) (j := i) (p := p) (q := q) h hrun h2
    rcases hi with rfl | rfl | rfl <;> cases his
    · exact behind rfl rfl fun w => decide_not.symm.trans (decide_eq_decide.2 Int.not_lt)
    · exact behind rfl rfl fun w => decide_not.symm.trans (decide_eq_decide.2 Int.not_lt)
    · exact behind rfl rfl fun w => decide_not.symm

end Sys2Proof.Machine
end

section
/-! Several words pushed and popped at once, and the objects LOI, LOS, STI, STS, LAI and SAI move (R15, R83, R206, R211,
R223, R225): what the loops of the stack leave, and which bytes they write. -/

namespace Sys2Proof.Machine

/-! ## What changes, one change after another -/

theorem sameRest.trans {s t u : State} (hst : sameRest s t) (htu : sameRest t u) : sameRest s u :=
  Eq.trans htu (by rw [hst])

theorem storesOnly.widen {s t : State} {a n b m : Int} (h : storesOnly s t a n) (hlow : b ≤ a) (hhigh : a + n ≤ b + m) :
    storesOnly s t b m :=
  fun x hx hout => h x hx (by omega)

theorem storesOnly.trans {s t u : State} {a n : Int} (hst : storesOnly s t a n) (htu : storesOnly t u a n) :
    storesOnly s u a n :=
  fun x hx hout => (htu x hx hout).trans (hst x hx hout)

/-! ## Words read back where their bytes are as before -/

theorem State.word_congr {s t : State} {a : Int} (ha : 0 ≤ a) (hlow : t.byte a = s.byte a)
    (hhigh : t.byte (a + 1) = s.byte (a + 1)) : t.word a = s.word a := by
  rw [State.word_eq_wordOf t ha, State.word_eq_wordOf s ha, hlow, hhigh]

/-- The word at an address outside the bytes that were stored to. -/
theorem storesOnly.word_eq {s t : State} {a n : Int} (h : storesOnly s t a n) {x : Int} (hx : 0 ≤ x)
    (hout : x + 2 ≤ a ∨ a + n ≤ x) : t.word x = s.word x :=
  State.word_congr hx (h x hx (by omega)) (h (x + 1) (by omega) (by omega))

theorem storesOnly.wordsAt_eq {s t : State} {a n : Int} (h : storesOnly s t a n) (m : Nat) : ∀ {x : Int}, 0 ≤ x →
    (x + 2 * m ≤ a ∨ a + n ≤ x) → t.wordsAt x m = s.wordsAt x m := by
  induction m with
  | zero => exact fun _ _ => rfl
  | succ m ih =>
    intro x hx hout
    rw [State.wordsAt, State.wordsAt, h.word_eq hx (by omega), ih (by omega) (by omega)]

/-- The words on top of the stack where none of them was stored to and SP is the same. -/
theorem storesOnly.tops_eq {s t : State} {a n : Int} (h : storesOnly s t a n) (hsp : t.spI = s.spI) (m : Nat) :
    ∀ {i : Int}, 2 * (i + m) ≤ s.spI + 2 → (s.spI - 2 * i + 2 ≤ a ∨ a + n ≤ s.spI - 2 * (i + m) + 2) →
      t.tops i m = s.tops i m := by
  induction m with
  | zero => exact fun _ _ => rfl
  | succ m ih =>
    intro i hi hout
    have hw : t.word (s.spI - 2 * i) = s.word (s.spI - 2 * i) := h.word_eq (by omega) (by omega)
    rw [State.tops, State.tops, State.top, State.top, hsp, hw, ih (by omega) (by omega)]

@[simp] theorem State.length_wordsAt (s : State) (n : Nat) : ∀ a : Int, (s.wordsAt a n).length = n := by
  induction n with
  | zero => exact fun _ => rfl
  | succ n ih => exact fun a => congrArg (· + 1) (ih (a + 2))

@[simp] theorem State.length_tops (s : State) (n : Nat) : ∀ i : Int, (s.tops i n).length = n := by
  induction n with
  | zero => exact fun _ => rfl
  | succ n ih => exact fun i => congrArg (· + 1) (ih (i + 1))

/-! ## Room and admitted blocks -/

theorem State.room_iff (s : State) (n : Int) : s.room n = true ↔ s.spI + n < s.hpI := decide_eq_true_iff

theorem State.drop_room_iff {s : State} {m : Int} (h : s.wf = true) (h0 : 0 ≤ m) (hm : s.has m = true) (n : Int) :
    (s.drop m).room n = true ↔ s.spI - m + n < s.hpI := by
  rw [State.room_iff, State.drop_spI h h0 hm]
  rfl

theorem State.okblock_iff (s : State) (a n : Int) : s.okblock a n = true ↔
    a % 2 = 0 ∧ 0 ≤ a ∧ a + n ≤ s.maxdata + 1 ∧ (a + n ≤ s.spI + 2 ∨ s.hpI ≤ a) := by
  simp only [State.okblock, Bool.and_eq_true, Bool.or_eq_true, decide_eq_true_eq, and_assoc]

theorem State.nonneg_of_okword {s : State} {a : Int} (ha : s.okword a = true) : 0 ≤ a := by
  rw [State.okword_iff] at ha
  omega

theorem State.Sound.wf {s : State} (h : s.Sound) : s.wf = true := (State.wf_iff_sound s).2 h

theorem State.Sound.drop {s : State} (h : s.Sound) {n : Int} (h0 : 0 ≤ n) (heven : n % 2 = 0) (hn : s.has n = true) :
    (s.drop n).Sound :=
  (State.wf_iff_sound _).1 (State.drop_wf h.wf h0 heven hn).1

theorem State.Sound.drop_two {s : State} (h : s.Sound) (h2 : s.has 2 = true) : (s.drop 2).Sound :=
  h.drop (by decide) (by decide) h2

/-! ## Words pushed (R15) -/

section
variable {s : State} (h : s.Sound)
include h

theorem State.Sound.storesOnly_pushed (v : Int) : storesOnly s (s.pushed v) (s.spI + 2) 2 := by
  intro x hx hout
  rw [h.byte_pushed v hx, if_neg (by omega), if_neg (by omega)]

theorem State.Sound.pushed_room {n : Int} (h0 : 0 ≤ n) (hr : s.room (n + 2) = true) (v : Int) :
    (s.pushed v).room n = true := by
  rw [State.room_iff] at hr ⊢
  rw [h.spI_pushed ((s.room_iff 2).2 (by omega))]
  change _ < s.hpI
  omega

end

theorem sameRest_pushedAll (vs : List Int) : ∀ s : State, sameRest s (s.pushedAll vs) := by
  induction vs with
  | nil => exact fun _ => rfl
  | cons v vs ih => exact fun s => sameRest.trans (t := s.pushed v) rfl (ih _)

theorem State.Sound.storesOnly_pushedAll (vs : List Int) : ∀ {s : State}, s.Sound → s.room (2 * vs.length) = true →
    storesOnly s (s.pushedAll vs) (s.spI + 2) (2 * vs.length) := by
  induction vs with
  | nil => exact fun _ _ _ _ _ => rfl
  | cons v vs ih =>
    intro s h hr
    rw [List.length_cons, Nat.cast_succ, Int.mul_add] at hr ⊢
    have h2 : s.room 2 = true := by rw [State.room_iff] at hr ⊢; omega
    have hrest := ih (h.pushed h2 v) (h.pushed_room (by omega) hr v)
    rw [h.spI_pushed h2] at hrest
    exact ((h.storesOnly_pushed v).widen (by omega) (by omega)).trans (hrest.widen (by omega) (by omega))

/-- The words of an admitted block are pushed as they were: none of the pushes meets the block. -/
theorem State.Sound.pushWords_eq (n : Nat) : ∀ {s : State} {a : Int}, s.Sound → s.room (2 * n) = true →
    s.okblock a (2 * n) = true → pushWords n a s = .ok () (s.pushedAll (s.wordsAt a n)) := by
  induction n with
  | zero => exact fun _ _ _ => rfl
  | succ n ih =>
    intro s a h hr hb
    rw [Nat.cast_succ, Int.mul_add] at hr hb
    have hblock := (s.okblock_iff _ _).1 hb
    have hroom := (s.room_iff _).1 hr
    have h2 : s.room 2 = true := (s.room_iff 2).2 (by omega)
    have hread : memw a s = .ok (s16 (s.word a)) s := by
      have hw := State.okword_of_okblock h.wf hb (j := 0) (by decide) (by decide) (by omega)
      rw [Int.add_zero] at hw
      exact memw_of_okword hw
    have hrest : (s.pushed (s16 (s.word a))).okblock (a + 2) (2 * n) = true := by
      rw [State.okblock_iff, h.spI_pushed h2]
      change _ ∧ _ ∧ _ ≤ s.maxdata + 1 ∧ (_ ∨ s.hpI ≤ _)
      omega
    have hsame : (s.pushed (s16 (s.word a))).wordsAt (a + 2) n = s.wordsAt (a + 2) n :=
      (h.storesOnly_pushed _).wordsAt_eq n (by omega) (by omega)
    calc pushWords (n + 1) a s
        = _ := Op.bind_of_ok hread
      _ = _ := Op.bind_of_ok (h.push_eq h2 _)
      _ = _ := ih (h.pushed h2 _) (h.pushed_room (by omega) hr _) hrest
      _ = _ := by rw [hsame]; rfl

/-! ## Words popped (R15) -/

theorem sameRest_storeDown (a : Int) (vs : List Int) : ∀ s : State, sameRest s (s.storeDown a vs) := by
  induction vs with
  | nil => exact fun _ => rfl
  | cons v vs ih => exact fun s => sameRest.trans (t := s.putWord (a + 2 * (vs.length : Int)) v) rfl (ih _)

/-- The highest word of an admitted block, and the block below it. -/
theorem State.Sound.okblock_succ {s : State} (h : s.Sound) {a : Int} {n : Nat}
    (hb : s.okblock a (2 * (n + 1 : Nat)) = true) : s.okword (a + 2 * (n : Int)) = true ∧ s.okblock a (2 * n) = true := by
  refine ⟨State.okword_of_okblock h.wf hb (by omega) (by omega) (by omega), ?_⟩
  rw [State.okblock_iff] at hb ⊢
  omega

theorem State.Sound.storesOnly_storeDown {a : Int} (vs : List Int) : ∀ {s : State}, s.Sound →
    s.okblock a (2 * vs.length) = true → storesOnly s (s.storeDown a vs) a (2 * vs.length) := by
  induction vs with
  | nil => exact fun _ _ _ _ _ => rfl
  | cons v vs ih =>
    intro s h hb
    obtain ⟨hw, hlow⟩ := h.okblock_succ hb
    have hput := storesOnly_putWord h.wf (State.nonneg_of_okword hw) v
    have hrest := ih (h.putWord hw v) hlow
    rw [List.length_cons, Nat.cast_succ, Int.mul_add]
    exact (hput.widen (by omega) (by omega)).trans (hrest.widen (by omega) (by omega))

/-- A store below the `n` words on top of the stack, or into the heap, leaves them. -/
theorem State.Sound.tops_putWord {s : State} (h : s.Sound) {n : Nat} (hn : s.has (2 * n) = true) {a : Int} (h0 : 0 ≤ a)
    (ha : a + 2 ≤ s.spI - 2 * n + 2 ∨ s.hpI ≤ a) (v : Int) : (s.putWord a v).tops 0 n = s.tops 0 n := by
  have := h.sp_lt
  have := h.sp_even
  have := h.hp_even
  have := adr_nonneg s.lb
  rw [State.has_iff, State.lbI] at hn
  exact (storesOnly_putWord h.wf h0 v).tops_eq rfl n (by omega) (by omega)

/-- Words are popped to an admitted block as they stood on the stack: no store meets the words still to be popped. -/
theorem State.Sound.popWords_eq (n : Nat) : ∀ {s : State} {a : Int}, s.Sound → s.has (2 * n) = true →
    (s.drop (2 * n)).okblock a (2 * n) = true →
    popWords n a s = .ok () ((s.drop (2 * n)).storeDown a (s.tops 0 n)) := by
  induction n with
  | zero =>
    intro s a _ _ _
    rw [Nat.cast_zero, Int.mul_zero, State.drop, Int.sub_zero, State.setSp_spI]
    rfl
  | succ n ih =>
    intro s a h hh hb
    have h2 : s.has 2 = true := State.has_of_le hh (by omega)
    have hs2 := h.drop_two h2
    have hsp : (s.drop 2).spI = s.spI - 2 := State.drop_spI h.wf (by decide) h2
    have hdrop : (s.drop 2).drop (2 * n) = s.drop (2 * (n + 1 : Nat)) := by
      rw [State.drop_drop h.wf (by decide) h2, Nat.cast_succ, Int.mul_add, Int.add_comm]
      rfl
    have hn : (s.drop 2).has (2 * n) = true := State.drop_has h.wf (by decide) h2 (State.has_of_le hh (by omega))
    have hw := (hs2.okblock_succ (State.okblock_drop_mono h.wf (by decide) (by omega) hh hb)).1
    have hlow : ((s.drop 2).drop (2 * n)).okblock a (2 * n) = true :=
      hdrop ▸ ((h.drop (by omega) (by omega) hh).okblock_succ hb).2
    have htops : ((s.drop 2).putWord (a + 2 * (n : Int)) (s.top 0)).tops 0 n = s.tops (0 + 1) n := by
      rw [State.okblock_iff, State.drop_spI h.wf (by omega) hh] at hb
      obtain ⟨_, _, _, hout⟩ := hb
      change _ ∨ s.hpI ≤ a at hout
      have hclear : a + 2 * (n : Int) + 2 ≤ (s.drop 2).spI - 2 * n + 2 ∨ (s.drop 2).hpI ≤ a + 2 * (n : Int) := by
        rw [hsp]
        change _ ∨ s.hpI ≤ _
        omega
      rw [hs2.tops_putWord hn (State.nonneg_of_okword hw) hclear, State.tops_drop hsp]
    calc popWords (n + 1) a s
        = _ := Op.bind_of_ok (popw_spec h.wf h2)
      _ = _ := Op.bind_of_ok (store_of_okword hw _)
      _ = _ := ih (hs2.putWord hw _) hn hlow
      _ = _ := by
        rw [htops, ← hdrop, State.tops, State.storeDown, State.length_tops]
        rfl

/-! ## Objects (R15, R83) -/

/-- The sizes of class y (R118): one byte, or words. -/
theorem isY_cases {k : Int} (hk : isY k = true) : k = 1 ∨ ∃ n : Nat, 0 < n ∧ k = 2 * n := by
  simp only [isY, isP, Bool.or_eq_true, Bool.and_eq_true, decide_eq_true_eq] at hk
  by_cases h1 : k = 1
  · exact .inl h1
  · exact .inr ⟨(k / 2).toNat, by omega, by omega⟩

section
variable (s : State) (i a : Int) (n : Nat)

theorem two_mul_ne_one : (2 * n : Int) ≠ 1 := by omega

theorem toNat_two_mul_half : ((2 * n : Int) / 2).toNat = n := by omega

theorem stackSize_words : stackSize (2 * n) = 2 * n := if_neg (two_mul_ne_one n)

theorem State.objectAt_words : s.objectAt a (2 * n) = s.wordsAt a n := by
  rw [State.objectAt, if_neg (two_mul_ne_one n), toNat_two_mul_half]

theorem State.okobject_words : s.okobject a (2 * n) = s.okblock a (2 * n) := if_neg (two_mul_ne_one n)

theorem State.popObject_words : s.popObject i a (2 * n) = (s.drop (2 * i + 2 * n)).storeDown a (s.tops i n) := by
  rw [State.popObject, if_neg (two_mul_ne_one n), toNat_two_mul_half]

theorem State.okpop_byte_iff : s.okpop i a 1 = true ↔ s.has (2 * i + 2) = true ∧ (s.drop (2 * i)).okadr a = true := by
  rw [State.okpop, Bool.and_eq_true, if_pos rfl]
  rfl

theorem State.okpop_words_iff : s.okpop i a (2 * n) = true ↔
    s.has (2 * i + 2 * n) = true ∧ (s.drop (2 * i + 2 * n)).okblock a (2 * n) = true := by
  rw [State.okpop, Bool.and_eq_true, if_neg (two_mul_ne_one n), stackSize_words]

end

/-- The words an object is on the stack take its size there. -/
theorem State.length_objectAt (s : State) (a : Int) {k : Int} (hk : isY k = true) :
    2 * ((s.objectAt a k).length : Int) = stackSize k := by
  obtain rfl | ⟨n, _, rfl⟩ := isY_cases hk
  · rfl
  · rw [State.objectAt_words, State.length_wordsAt, stackSize_words]

/-- The test of the size of a moved object (R15) holds of words. -/
theorem require_words {n : Nat} (hn : 0 < n) (s : State) :
    require (decide ((2 * n : Int) % 2 = 0) && decide ((0 : Int) < 2 * n)) EODDZ s = .ok () s := by
  rw [require_spec, if_pos]
  simp only [Bool.and_eq_true, decide_eq_true_eq]
  omega

/-- An object of class y at an admitted address is pushed as it is. -/
theorem State.Sound.pushx_eq {s : State} (h : s.Sound) {a k : Int} (hk : isY k = true) (ho : s.okobject a k = true)
    (hr : s.room (stackSize k) = true) : pushx k a s = .ok () (s.pushedAll (s.objectAt a k)) := by
  obtain rfl | ⟨n, hn, rfl⟩ := isY_cases hk
  · exact (Op.bind_of_ok (memb_of_okadr ho)).trans (h.push_eq hr _)
  · rw [State.okobject_words] at ho
    rw [stackSize_words] at hr
    rw [pushx, if_neg (two_mul_ne_one n), State.objectAt_words, toNat_two_mul_half]
    exact (Op.bind_of_ok (require_words hn s)).trans (h.pushWords_eq n hr ho)

theorem State.Sound.storesOnly_pushed_object {s : State} (h : s.Sound) {k : Int} (hk : isY k = true)
    (hr : s.room (stackSize k) = true) (a : Int) :
    storesOnly s (s.pushedAll (s.objectAt a k)) (s.spI + 2) (stackSize k) := by
  rw [← s.length_objectAt a hk] at hr ⊢
  exact h.storesOnly_pushedAll _ hr

/-- One byte is popped from the byte at address SP. -/
theorem State.Sound.popx_byte {s : State} (h : s.Sound) {a : Int} (hp : s.okpop 0 a 1 = true) :
    popx 1 a s = .ok () (s.popObject 0 a 1) := by
  obtain ⟨h2, ha⟩ := (s.okpop_byte_iff 0 a).1 hp
  have hwf := h.wf
  have hlb : 0 ≤ s.lbI := adr_nonneg s.lb
  have hbase := (s.has_iff _).1 h2
  have hread : memb s.spI s = .ok ((s.byte s.spI).toNat : Int) s :=
    memb_of_okadr ((Bool.and_eq_true _ _).mp (State.okword_top hwf (by omega))).2
  have hstore : storeb a (BitVec.ofInt 8 (s.byte s.spI).toNat) s = .ok () (s.putByte a (s.byte s.spI)) := by
    rw [Int.mul_zero, State.drop, Int.sub_zero, State.setSp_spI] at ha
    rw [BitVec.ofInt_natCast, BitVec.ofNat_toNat, BitVec.setWidth_eq]
    exact storeb_of_okadr ha _
  have hsp : newsp (s.spI - 2) (s.putByte a (s.byte s.spI)) = .ok () ((s.drop 2).putByte a (s.byte s.spI)) := by
    have hok : s.oksp (s.spI - 2) = true := by
      have := h.sp_even
      have := h.sp_lt
      simp only [State.oksp, Bool.and_eq_true, decide_eq_true_eq]
      omega
    exact if_pos hok
  calc popx 1 a s
      = _ := Op.get_bind _ s
    _ = _ := Op.bind_of_ok hread
    _ = _ := Op.bind_of_ok hstore
    _ = _ := hsp
    _ = _ := by rw [State.popObject, if_pos rfl, Int.mul_zero, Int.sub_zero]; rfl

/-- An object of class y is popped to an admitted address as it stands on the stack. -/
theorem State.Sound.popx_eq {s : State} (h : s.Sound) {a k : Int} (hk : isY k = true) (hp : s.okpop 0 a k = true) :
    popx k a s = .ok () (s.popObject 0 a k) := by
  obtain rfl | ⟨n, hn, rfl⟩ := isY_cases hk
  · exact h.popx_byte hp
  · rw [State.okpop_words_iff, Int.mul_zero, Int.zero_add] at hp
    rw [popx, if_neg (two_mul_ne_one n), State.popObject_words, toNat_two_mul_half, Int.mul_zero, Int.zero_add]
    exact (Op.bind_of_ok (require_words hn s)).trans (h.popWords_eq n hp.1 hp.2)

theorem sameRest_popObject (s : State) (i a k : Int) : sameRest s (s.popObject i a k) := by
  unfold State.popObject
  split
  · rfl
  · exact sameRest.trans (t := s.drop (2 * i + k)) rfl (sameRest_storeDown _ _ _)

theorem State.Sound.storesOnly_popObject {s : State} (h : s.Sound) {i a k : Int} (hi : 0 ≤ i) (hk : isY k = true)
    (hp : s.okpop i a k = true) : storesOnly s (s.popObject i a k) a k := by
  obtain rfl | ⟨n, _, rfl⟩ := isY_cases hk
  · obtain ⟨h2, ha⟩ := (s.okpop_byte_iff i a).1 hp
    have hs := h.drop (by omega) (by omega) h2
    exact storesOnly_putByte hs.wf ((State.okadr_iff _ _).1 ha).1 _
  · obtain ⟨hh, hb⟩ := (s.okpop_words_iff i a n).1 hp
    have hs := h.drop (by omega) (by omega) hh
    have hstores := hs.storesOnly_storeDown (a := a) (s.tops i n)
    rw [State.length_tops] at hstores
    rw [State.popObject_words]
    exact hstores hb

/-- Behind a pop the object starts one word nearer to the top. -/
theorem State.popObject_drop {s : State} (h : s.wf = true) (h2 : s.has 2 = true) (i a k : Int) :
    (s.drop 2).popObject i a k = s.popObject (i + 1) a k := by
  have hsp : (s.drop 2).spI = s.spI - 2 := State.drop_spI h (by decide) h2
  have hbyte : (s.drop 2).byte (s.spI - 2 - 2 * i) = s.byte (s.spI - 2 * (i + 1)) :=
    congrArg s.byte (by omega)
  simp only [State.popObject, State.drop_drop h (by decide) h2, State.tops_drop hsp, hsp, hbyte]
  rw [show 2 + (2 * i + 2) = 2 * (i + 1) + 2 by omega, show 2 + (2 * i + k) = 2 * (i + 1) + k by omega]

theorem State.okpop_drop {s : State} (h : s.wf = true) (h2 : s.has 2 = true) {i a k : Int}
    (hp : s.okpop (i + 1) a k = true) : (s.drop 2).okpop i a k = true := by
  simp only [State.okpop, State.drop_drop h (by decide) h2, Bool.and_eq_true] at hp ⊢
  obtain ⟨hh, ht⟩ := hp
  rw [show 2 + 2 * i = 2 * (i + 1) by omega, show 2 + (2 * i + k) = 2 * (i + 1) + k by omega]
  refine ⟨State.drop_has h (by decide) h2 ?_, ht⟩
  rwa [show 2 + (2 * i + stackSize k) = 2 * (i + 1) + stackSize k by omega]

end Sys2Proof.Machine
end

section
/-! The load instructions and the moves of objects (R201 to R215, R223, R225, R226, R378): the statements about LOC, LNC,
LAL, LAE, LOR and LEX, about the word loads, about LOI, LOS, STI and STS, and about LAI and SAI. -/

namespace Sys2Proof.Machine

/-! ## Operands of their class (R16) -/

theorem argn_accepts {k : Int} (hk : isN k = true) (s : State) : argn k s = .ok k s := by
  have hr : require (isN k) EILLINS s = .ok () s := by rw [require_spec, hk]; rfl
  exact Op.bind_of_ok hr

theorem argy_accepts {k : Int} (hk : isY k = true) (s : State) : argy k s = .ok k s := by
  have hr : require (isY k) EILLINS s = .ok () s := by rw [require_spec, hk]; rfl
  exact Op.bind_of_ok hr

theorem runOp_argx {k : Int} (hk : isX k = true) {f : Int → Op Unit} {s t : State} (hf : f k s = .ok () t) :
    runOp (argx k >>= f) s = .next t :=
  runOp_of_ok ((Op.bind_of_ok (argx_accepts hk s)).trans hf)

theorem runOp_popa {s t : State} (h : s.Sound) (h2 : s.has 2 = true) {f : Int → Op Unit}
    (hf : f (s.topA 0) (s.drop 2) = .ok () t) : runOp (popa >>= f) s = .next t :=
  runOp_of_ok ((Op.bind_of_ok (popa_spec h.wf h2)).trans hf)

/-! ## Instructions that push -/

/-- An instruction that pushes words on a state `u`, which is `s` or `s` behind a pop, writes those words and nothing
else. -/
theorem completes_pushedAll {i : Instr} {s u : State} {vs : List Int} (hu : u.Sound)
    (hr : u.room (2 * vs.length) = true) (hrest : sameRest s u) (hdata : u.data = s.data)
    (hx : exec i s = .next (u.pushedAll vs)) :
    completes i s (u.pushedAll vs) (u.spI + 2) (2 * vs.length) := by
  refine ⟨hx, hrest.trans (sameRest_pushedAll vs u), fun x h0 hout => ?_⟩
  rw [hu.storesOnly_pushedAll vs hr x h0 hout, State.byte, State.byte, hdata]

theorem completes_pushed {i : Instr} {s : State} {v : Int} (h : s.Sound) (hr : s.room 2 = true)
    (hx : exec i s = .next (s.pushed v)) : completes i s (s.pushed v) (s.spI + 2) 2 :=
  completes_pushedAll (vs := [v]) h hr rfl rfl hx

/-- The same for words pushed in the place of a popped address. -/
theorem completes_popa_pushedAll {i : Instr} {f : Int → Op Unit} {s : State} {vs : List Int} (h : s.Sound)
    (h2 : s.has 2 = true) (hr : (s.drop 2).room (2 * vs.length) = true) (hx : exec i s = runOp (popa >>= f) s)
    (hf : f (s.topA 0) (s.drop 2) = .ok () ((s.drop 2).pushedAll vs)) :
    completes i s ((s.drop 2).pushedAll vs) s.spI (2 * vs.length) := by
  have hc := completes_pushedAll (h.drop_two h2) hr (s := s) rfl rfl
    (hx.trans (runOp_popa h h2 hf))
  rwa [State.drop_spI h.wf (by decide) h2, Int.sub_add_cancel] at hc

/-! ## Constants, addresses, registers (R201, R202, R208 to R210, R378) -/

theorem followLinks_eq {s : State} (n : Nat) : ∀ {a : Int}, s.oklinks n a = true →
    followLinks n a s = .ok (s.linkAt n a) s := by
  induction n with
  | zero => exact fun _ => rfl
  | succ n ih =>
    intro a hl
    obtain ⟨hw, hrest⟩ := (Bool.and_eq_true _ _).mp hl
    exact (Op.bind_of_ok (mema_of_okword hw)).trans (ih hrest)

/-- LOR with the register it names (R378). -/
theorem exec_lor_eq (s : State) : exec (.lor 0) s = runOp (push s.lbI) s ∧ exec (.lor 1) s = runOp (push s.spI) s ∧
    exec (.lor 2) s = runOp (push s.hpI) s :=
  ⟨runOp_congr (Op.get_bind _ s), runOp_congr (Op.get_bind _ s), runOp_congr (Op.get_bind _ s)⟩

/-- Settles O8: each of the eight is one push behind what its operand needs. -/
theorem constantAndRegisterPushes : Obligations.ConstantAndRegisterPushes := by
  constructor
  · intro s k h hr
    have hs := (State.wf_iff_sound s).1 h
    obtain ⟨hlb, hsp, hhp⟩ := exec_lor_eq s
    have hpush (v : Int) : runOp (push v) s = .next (s.pushed v) := runOp_of_ok (hs.push_eq hr v)
    refine ⟨?loc, ?lnc, fun hk => ?lal, fun hk => ?lae, ?lb, ?sp, ?hp⟩
    case loc => exact completes_pushed hs hr (hpush k)
    case lnc => exact completes_pushed hs hr (hpush (-k))
    case lal => exact completes_pushed hs hr (runOp_argx hk (hs.push_eq hr _))
    case lae => exact completes_pushed hs hr (runOp_argx hk (hs.push_eq hr _))
    case lb => exact completes_pushed hs hr (hlb.trans (hpush _))
    case sp => exact completes_pushed hs hr (hsp.trans (hpush _))
    case hp => exact completes_pushed hs hr (hhp.trans (hpush _))
  · intro s k h hk hr hl
    have hs := (State.wf_iff_sound s).1 h
    exact completes_pushed hs hr (runOp_of_ok ((Op.bind_of_ok (argn_accepts hk s)).trans
      ((Op.bind_of_ok (followLinks_eq _ hl)).trans (hs.push_eq hr _))))

/-! ## Words (R203 to R205, R207, R213 to R215) -/

theorem State.Sound.memw_push {s : State} (h : s.Sound) (hr : s.room 2 = true) {a : Int} (ha : s.okword a = true) :
    (memw a >>= fun w => push w) s = .ok () (s.pushed (s16 (s.word a))) :=
  (Op.bind_of_ok (memw_of_okword ha)).trans (h.push_eq hr _)

/-- Settles O9: the word or words at an address behind what the address needs, pushed on the state before or behind the
pop of a pointer. -/
theorem wordLoads : Obligations.WordLoads := by
  constructor
  · intro s k h
    have hs := (State.wf_iff_sound s).1 h
    refine ⟨fun hk hr ha => ?lol, fun hk hr ha => ?loe, fun hk hr hp ha => ?lop, fun h2 ha => ?lof⟩
    case lol => exact completes_pushed hs hr (runOp_argx hk (hs.memw_push hr ha))
    case loe => exact completes_pushed hs hr (runOp_argx hk (hs.memw_push hr ha))
    case lop =>
      exact completes_pushed hs hr (runOp_argx hk ((Op.bind_of_ok (mema_of_okword hp)).trans (hs.memw_push hr ha)))
    case lof =>
      have hr : (s.drop 2).room 2 = true := (State.drop_room_iff h (by decide) h2 2).2 (by have := hs.sp_lt; omega)
      exact completes_popa_pushedAll (vs := [_]) hs h2 hr rfl ((hs.drop_two h2).memw_push hr ha)
  · intro s k h
    have hs := (State.wf_iff_sound s).1 h
    refine ⟨fun hk hr hb => ?ldl, fun hk hr hb => ?lde, fun h2 hr hb => ?ldf⟩
    case ldl => exact completes_pushedAll hs hr rfl rfl (runOp_argx hk (hs.pushWords_eq 2 hr hb))
    case lde => exact completes_pushedAll hs hr rfl rfl (runOp_argx hk (hs.pushWords_eq 2 hr hb))
    case ldf =>
      rw [State.room_iff] at hr
      have hr : (s.drop 2).room 4 = true := (State.drop_room_iff h (by decide) h2 4).2 (by omega)
      exact completes_popa_pushedAll hs h2 hr rfl ((hs.drop_two h2).pushWords_eq 2 hr hb)

/-! ## Objects (R211, R212, R225, R226) -/

theorem State.drop_wordsAt (s : State) (m : Int) (n : Nat) : ∀ a : Int, (s.drop m).wordsAt a n = s.wordsAt a n := by
  induction n with
  | zero => exact fun _ => rfl
  | succ n ih => exact fun a => congrArg (s16 (s.word a) :: ·) (ih (a + 2))

theorem loiPre_iff (k : Int) (s : State) : loiPre k s = true ↔ isY k = true ∧ s.has 2 = true ∧
    (s.drop 2).okobject (s.topA 0) k = true ∧ (s.drop 2).room (stackSize k) = true := by
  simp only [loiPre, Bool.and_eq_true, and_assoc]

theorem loiPost_eq (k : Int) (s : State) :
    loiPost k s = (s.drop 2).pushedAll ((s.drop 2).objectAt (s.topA 0) k) := by
  rw [loiPost, State.objectAt, State.objectAt, State.drop_wordsAt]
  rfl

/-- LOI and LOS once the size is known. -/
theorem loadIndirect_eq {s : State} (h : s.Sound) {k : Int} (hp : loiPre k s = true) :
    loadIndirect k s = .ok () (loiPost k s) := by
  obtain ⟨hk, h2, ho, hr⟩ := (loiPre_iff k s).1 hp
  rw [loiPost_eq]
  calc loadIndirect k s
      = _ := Op.bind_of_ok (argy_accepts hk s)
    _ = _ := Op.bind_of_ok (popa_spec h.wf h2)
    _ = _ := (h.drop_two h2).pushx_eq hk ho hr

theorem loiPost_changes {s : State} (h : s.Sound) {k : Int} (hp : loiPre k s = true) :
    sameRest s (loiPost k s) ∧ storesOnly s (loiPost k s) s.spI (stackSize k) := by
  obtain ⟨hk, h2, _, hr⟩ := (loiPre_iff k s).1 hp
  have hstores := (h.drop_two h2).storesOnly_pushed_object hk hr (s.topA 0)
  rw [State.drop_spI h.wf (by decide) h2, Int.sub_add_cancel] at hstores
  rw [loiPost_eq]
  exact ⟨sameRest.trans (t := s.drop 2) rfl (sameRest_pushedAll _ _), hstores⟩

/-- STI and STS once the size is known. -/
def storeIndirect (k : Int) : Op Unit := do
  let y ← argy k
  let p ← popa
  popx y p

theorem exec_sti (k : Int) (s : State) : exec (.sti k) s = runOp (storeIndirect k) s := rfl

theorem exec_sts (s : State) : exec .sts s = runOp (popa >>= storeIndirect) s := rfl

/-- What a completed STI needs behind its pop of the address. -/
theorem stiPre_popped {s : State} (h : s.Sound) {k : Int} (hp : stiPre k s = true) :
    isY k = true ∧ s.has 2 = true ∧ (s.drop 2).okpop 0 (s.topA 0) k = true := by
  obtain ⟨hk, ho⟩ := (Bool.and_eq_true _ _).mp hp
  have h2 : s.has 2 = true := by
    have := isY_pos hk
    refine State.has_of_le ((Bool.and_eq_true _ _).mp ho).1 ?_
    unfold stackSize
    split_ifs <;> omega
  exact ⟨hk, h2, State.okpop_drop h.wf h2 ho⟩

theorem storeIndirect_eq {s : State} (h : s.Sound) {k : Int} (hp : stiPre k s = true) :
    storeIndirect k s = .ok () (stiPost k s) := by
  obtain ⟨hk, h2, ho⟩ := stiPre_popped h hp
  calc storeIndirect k s
      = _ := Op.bind_of_ok (argy_accepts hk s)
    _ = _ := Op.bind_of_ok (popa_spec h.wf h2)
    _ = _ := (h.drop_two h2).popx_eq hk ho
    _ = _ := by rw [State.popObject_drop h.wf h2]; rfl

theorem stiPost_changes {s : State} (h : s.Sound) {k : Int} (hp : stiPre k s = true) :
    sameRest s (stiPost k s) ∧ storesOnly s (stiPost k s) (s.topA 0) k := by
  obtain ⟨hk, ho⟩ := (Bool.and_eq_true _ _).mp hp
  exact ⟨sameRest_popObject s 1 _ k, h.storesOnly_popObject (by decide) hk ho⟩

/-- Settles O11: the stacked forms are the immediate ones behind the pop of the size. -/
theorem objectMoves : Obligations.ObjectMoves := by
  constructor
  · intro s k h
    have hs := (State.wf_iff_sound s).1 h
    refine ⟨fun hp => ⟨(exec_loi k s).trans (runOp_of_ok (loadIndirect_eq hs hp)),
      loiPost_changes hs hp⟩, fun h2 hp => ?_⟩
    have hs2 := hs.drop_two h2
    obtain ⟨hrest, hstores⟩ := loiPost_changes hs2 hp
    rw [State.drop_spI h (by decide) h2] at hstores
    exact ⟨(exec_los s).trans (runOp_popa hs h2 (loadIndirect_eq hs2 hp)),
      sameRest.trans (t := s.drop 2) rfl hrest, hstores⟩
  · intro s k h
    have hs := (State.wf_iff_sound s).1 h
    refine ⟨fun hp => ⟨(exec_sti k s).trans (runOp_of_ok (storeIndirect_eq hs hp)),
      stiPost_changes hs hp⟩, fun h2 hp => ?_⟩
    have hs2 := hs.drop_two h2
    obtain ⟨hrest, hstores⟩ := stiPost_changes hs2 hp
    rw [State.drop_topA h h2] at hstores
    exact ⟨(exec_sts s).trans (runOp_popa hs h2 (storeIndirect_eq hs2 hp)),
      sameRest.trans (t := s.drop 2) rfl hrest, hstores⟩

/-! ## The pointer updated first (R206, R223) -/

/-- LAI and SAI, with the move they make at the end. -/
def autoIncrement (move : Int → Int → Op Unit) (k : Int) : Op Unit := do
  let y ← argy k
  let a ← popa
  let b ← mema a
  store a (b + y)
  move y b

theorem exec_lai (k : Int) (s : State) : exec (.lai k) s = runOp (autoIncrement pushx k) s := rfl

theorem exec_sai (k : Int) (s : State) : exec (.sai k) s = runOp (autoIncrement popx k) s := rfl

/-- Settles O12: the move is made from the state with the pointer updated, and the two places are written in turn. -/
theorem autoIncrementMoves : Obligations.AutoIncrementMoves := by
  intro s u k b h hk h2 ha hb hu
  have hs2 := ((State.wf_iff_sound s).1 h).drop_two h2
  have hus : u.Sound := hu ▸ hs2.putWord ha _
  have husp : u.spI = s.spI - 2 := by rw [hu, State.putWord_spI, State.drop_spI h (by decide) h2]
  have hrest : sameRest s u := by
    rw [hu]
    rfl
  have hpointer : storesOnly s u (s.topA 0) 2 := by
    subst hu
    exact storesOnly_putWord hs2.wf (State.nonneg_of_okword ha) _
  have hmoved (move : Int → Int → Op Unit) : autoIncrement move k s = move k b u := by
    subst hb hu
    calc autoIncrement move k s
        = _ := Op.bind_of_ok (argy_accepts hk s)
      _ = _ := Op.bind_of_ok (popa_spec h h2)
      _ = _ := Op.bind_of_ok (mema_of_okword ha)
      _ = _ := Op.bind_of_ok (store_of_okword ha _)
  constructor
  · intro ho hr
    have hobject := hus.storesOnly_pushed_object hk hr b
    rw [husp, Int.sub_add_cancel] at hobject
    exact ⟨(exec_lai k s).trans (runOp_of_ok ((hmoved pushx).trans (hus.pushx_eq hk ho hr))),
      hrest.trans (sameRest_pushedAll _ u),
      fun x h0 hp hout => (hobject x h0 hout).trans (hpointer x h0 hp)⟩
  · intro ho
    exact ⟨(exec_sai k s).trans (runOp_of_ok ((hmoved popx).trans (hus.popx_eq hk ho))),
      hrest.trans (sameRest_popObject u 0 b k),
      fun x h0 hp hout => (hus.storesOnly_popObject (by decide) hk ho x h0 hout).trans (hpointer x h0 hp)⟩

end Sys2Proof.Machine
end

section
/-! The store instructions (R220 to R222, R224, R227 to R229): popped words stored behind a pop of the pointer or none, and
the statement about STL, STE, STP, STF, SDL, SDE and SDF. -/

namespace Sys2Proof.Machine

/-! ## What a store behind pops leaves unchanged -/

/-- An instruction that drops words and then stores one writes that word and nothing else. -/
theorem completes_drop_putWord {i : Instr} {s : State} {n a v : Int} (hd : (s.drop n).Sound)
    (ha : (s.drop n).okword a = true) (hx : exec i s = .next ((s.drop n).putWord a v)) :
    completes i s ((s.drop n).putWord a v) a 2 :=
  ⟨hx, rfl, storesOnly_putWord hd.wf (State.nonneg_of_okword ha) v⟩

/-- The same for several words. -/
theorem completes_drop_storeDown {i : Instr} {s : State} {n a : Int} {vs : List Int} (hd : (s.drop n).Sound)
    (hb : (s.drop n).okblock a (2 * vs.length) = true) (hx : exec i s = .next ((s.drop n).storeDown a vs)) :
    completes i s ((s.drop n).storeDown a vs) a (2 * vs.length) :=
  ⟨hx, sameRest.trans (t := s.drop n) rfl (sameRest_storeDown a vs _), hd.storesOnly_storeDown vs hb⟩

/-! ## Words popped and stored (R220 to R222, R224, R227 to R229) -/

section
variable {s : State} (h : s.Sound)
include h

theorem State.Sound.popw_store (h2 : s.has 2 = true) {a : Int} (ha : (s.drop 2).okword a = true) :
    (popw >>= fun w => store a w) s = .ok () ((s.drop 2).putWord a (s.top 0)) :=
  (Op.bind_of_ok (popw_spec h.wf h2)).trans (store_of_okword ha _)

/-- The same behind the pop of a pointer: the word comes from below the top. -/
theorem State.Sound.popw_store_second (h4 : s.has 4 = true) {a : Int} (ha : (s.drop 4).okword a = true) :
    (popw >>= fun w => store a w) (s.drop 2) = .ok () ((s.drop 4).putWord a (s.top 1)) := by
  have hp : popw (s.drop 2) = .ok (s.top 1) (s.drop 4) := by simpa using popw_second h.wf h4 []
  exact (Op.bind_of_ok hp).trans (store_of_okword ha _)

/-- Words popped to an admitted block behind the pop of a pointer. -/
theorem State.Sound.popWords_second {n : Nat} (hn : s.has (2 + 2 * n) = true) {a : Int}
    (hb : (s.drop (2 + 2 * n)).okblock a (2 * n) = true) :
    popWords n a (s.drop 2) = .ok () ((s.drop (2 + 2 * n)).storeDown a (s.tops 1 n)) := by
  have h2 : s.has 2 = true := State.has_of_le hn (by omega)
  have hdrop : (s.drop 2).drop (2 * n) = s.drop (2 + 2 * n) := State.drop_drop h.wf (by decide) h2 _
  have hp := (h.drop_two h2).popWords_eq n (State.drop_has h.wf (by decide) h2 hn) (hdrop ▸ hb)
  rwa [hdrop, State.tops_drop (State.drop_spI h.wf (by decide) h2)] at hp

end

/-- Settles O10: the popped word or words go to the address behind what the address needs, from the state behind all
pops. -/
theorem wordStores : Obligations.WordStores := by
  constructor
  · intro s k h h2
    have hs := (State.wf_iff_sound s).1 h
    have hs2 := hs.drop_two h2
    refine ⟨fun hk ha => ?stl, fun hk ha => ?ste, fun hk hp ha => ?stp, fun h4 ha => ?stf⟩
    case stl => exact completes_drop_putWord hs2 ha (runOp_argx hk (hs.popw_store h2 ha))
    case ste => exact completes_drop_putWord hs2 ha (runOp_argx hk (hs.popw_store h2 ha))
    case stp =>
      exact completes_drop_putWord hs2 ha
        (runOp_argx hk ((Op.bind_of_ok (mema_of_okword hp)).trans (hs.popw_store h2 ha)))
    case stf =>
      exact completes_drop_putWord (hs.drop (by decide) (by decide) h4) ha
        (runOp_popa hs h2 (hs.popw_store_second h4 ha))
  · intro s k h h4
    have hs := (State.wf_iff_sound s).1 h
    have hs4 := hs.drop (by decide) (by decide) h4
    refine ⟨fun hk hb => ?sdl, fun hk hb => ?sde, fun h6 hb => ?sdf⟩
    case sdl => exact completes_drop_storeDown hs4 hb (runOp_argx hk (hs.popWords_eq 2 h4 hb))
    case sde => exact completes_drop_storeDown hs4 hb (runOp_argx hk (hs.popWords_eq 2 h4 hb))
    case sdf =>
      exact completes_drop_storeDown (hs.drop (by decide) (by decide) h6) hb
        (runOp_popa hs (State.has_of_le h4 (by decide)) (hs.popWords_second (n := 2) h6 hb))

end Sys2Proof.Machine
end

section
/-! Integer arithmetic where a condition stops the machine, where a zero divisor leaves no result, on one operand, and
by a count that leaves a free word (R235, R236, R239 to R243, R263, R266, R294, R295, R413): the statements about ADD under
default handling, about DIV and MOD, about NEG, INC and DEC, and about shifts and rotates by other counts. -/

namespace Sys2Proof.Machine

/-! ## Conditions that stop the machine (R412, R413) -/

theorem trap_of_defaultHandling {s : State} (hd : s.defaultHandling = true) (n : Byte) :
    trap n s = .error () (s.abort n) := by
  rw [trap_spec, hd, Bool.or_true]
  rfl

/-- A test that fails under default handling stops the machine, whatever its error. -/
theorem require_of_defaultHandling {s : State} (hd : s.defaultHandling = true) {c : Bool} (hc : c = false) (n : Byte) :
    require c n s = .error () (s.abort n) := by
  rw [require_spec, hc]
  exact trap_of_defaultHandling hd n

theorem argi_stops {s : State} (hd : s.defaultHandling = true) {w : Int} (hw : w = -32768) :
    argi w s = .error () (s.abort EIUND) := by
  subst hw
  exact Op.bind_of_error (require_of_defaultHandling hd rfl EIUND)

theorem chkovf_stops {s : State} (hd : s.defaultHandling = true) {z : Int} (hz : 32768 ≤ z.natAbs) :
    chkovf z s = .error () (s.abort EIOVFL) := by
  have hno : (!overflows z) = false := by rw [overflows, decide_eq_true hz]; rfl
  exact Op.bind_of_error (require_of_defaultHandling hd hno EIOVFL)

theorem raisedIf_of_not {p : Prop} [Decidable p] (hp : ¬ p) (n : Byte) : raisedIf (decide p) n = [] := by
  rw [raisedIf, decide_eq_false hp]
  rfl

theorem raisedIf_of {p : Prop} [Decidable p] (hp : p) (n : Byte) : raisedIf (decide p) n = [n] := by
  rw [raisedIf, decide_eq_true hp]
  rfl

theorem argi_of_defined {s : State} {w : Int} (hw : w ≠ -32768) : argi w s = .ok w s := by
  have ht : s.tolerates (raisedIf (decide (w = -32768)) EIUND) = true := by rw [raisedIf_of_not hw]; rfl
  have ha := argi_spec ht
  rwa [raisedIf_of_not hw, State.raiseAll_nil] at ha

/-- Settles O15: the operands are taken in the order right, left, and the sum is tested behind both. -/
theorem addStopsWithoutErrorProcedure : Obligations.AddStopsWithoutErrorProcedure := by
  intro s h h4 hd
  have hright : popw s = .ok (s.top 0) (s.drop 2) := popw_spec h (State.has_of_le h4 (by decide))
  have hleft : popw (s.drop 2) = .ok (s.top 1) (s.drop 4) := by simpa using popw_second h h4 []
  have hdrop (n : Int) : (s.drop n).defaultHandling = true := hd
  refine ⟨fun h0 => ?right, fun h0 h1 => ?left, fun h0 h1 hovf => ?sum⟩
  case right =>
    have hpop : popIntegers s = .error () ((s.drop 2).abort EIUND) :=
      (Op.bind_of_ok hright).trans (Op.bind_of_error (argi_stops (hdrop 2) h0))
    exact runOp_of_error (Op.bind_of_error hpop)
  case left =>
    have hpop : popIntegers s = .error () ((s.drop 4).abort EIUND) :=
      calc popIntegers s
          = _ := Op.bind_of_ok hright
        _ = _ := Op.bind_of_ok (argi_of_defined h0)
        _ = _ := Op.bind_of_ok hleft
        _ = _ := Op.bind_of_error (argi_stops (hdrop 4) h1)
    exact runOp_of_error (Op.bind_of_error hpop)
  case sum =>
    have hnone : integerRaises s = [] := by rw [integerRaises, raisedIf_of_not h0, raisedIf_of_not h1]; rfl
    have hpop : popIntegers s = .ok (s.top 1, s.top 0) (s.drop 4) := by
      simpa [hnone] using popIntegers_spec h h4 (by rw [hnone]; rfl)
    exact runOp_of_error ((Op.bind_of_ok hpop).trans (Op.bind_of_error (chkovf_stops (hdrop 4) hovf)))

/-! ## Conditions queued behind others (R412) -/

theorem trap_queued {n : Byte} (hf : isFatal n = false) {s : State} (ms : List Byte) (ht : s.tolerates [n] = true) :
    trap n (s.raiseAll ms) = .ok () (s.raiseAll (ms ++ [n])) := by
  rw [← State.raiseAll_raiseAll]
  exact trap_of_tolerated (s := s.raiseAll ms) hf ht

theorem require_queued {n : Byte} (hf : isFatal n = false) {s : State} {c : Bool} (ms : List Byte)
    (ht : s.tolerates (raisedIf c n) = true) :
    require (!c) n (s.raiseAll ms) = .ok () (s.raiseAll (ms ++ raisedIf c n)) := by
  rw [← State.raiseAll_raiseAll]
  simpa using require_of_tolerated (s := s.raiseAll ms) (c := !c) hf (by rwa [Bool.not_not])

/-! ## Operands popped, and what is left in their place -/

/-- An instruction that pops its operands and pushes nothing writes no byte. -/
theorem completes_popped {i : Instr} {m : Op Unit} {s : State} {n : Int} {ns : List Byte}
    (hx : exec i s = runOp m s) (hm : m s = .ok () ((s.drop n).raiseAll ns)) :
    completes i s ((s.drop n).raiseAll ns) 0 0 :=
  ⟨hx.trans (runOp_of_ok hm), rfl, fun _ _ _ => rfl⟩

@[simp] theorem State.raiseAll_spI (s : State) (ns : List Byte) : (s.raiseAll ns).spI = s.spI := rfl
@[simp] theorem State.raiseAll_room (s : State) (ns : List Byte) (n : Int) : (s.raiseAll ns).room n = s.room n := rfl

theorem State.Sound.raiseAll {s : State} (h : s.Sound) (ns : List Byte) : (s.raiseAll ns).Sound := { h with }

/-- There is room for the words that take the place of as many popped ones. -/
theorem State.Sound.drop_room {s : State} (h : s.Sound) {m n : Int} (h0 : 0 ≤ m) (hm : s.has m = true) (hnm : n ≤ m) :
    (s.drop m).room n = true := by
  rw [State.drop_room_iff h.wf h0 hm]
  have := h.sp_lt
  omega

/-- An instruction that pops `n` bytes and pushes words in their place, with errors queued between, writes those words
and nothing else. -/
theorem completes_replaced {i : Instr} {m : Op Unit} {s : State} {n a : Int} {ns : List Byte} {vs : List Int}
    (h : s.Sound) (h0 : 0 ≤ n) (heven : n % 2 = 0) (hn : s.has n = true) (ha : a = s.spI - n + 2)
    (hr : (s.drop n).room (2 * vs.length) = true) (hx : exec i s = runOp m s)
    (hm : m s = .ok () (((s.drop n).raiseAll ns).pushedAll vs)) :
    completes i s (((s.drop n).raiseAll ns).pushedAll vs) a (2 * vs.length) := by
  rw [← State.raiseAll_room _ ns] at hr
  rw [ha, ← State.drop_spI h.wf h0 hn, ← State.raiseAll_spI _ ns]
  exact completes_pushedAll ((h.drop h0 heven hn).raiseAll ns) hr rfl rfl (hx.trans (runOp_of_ok hm))

/-! ## Division (R239, R240) -/

/-- DIV and MOD are the same but for the number they push. -/
theorem completes_divided {i : Instr} (op : Int → Int → Int) {s : State} (h : s.wf = true) (h4 : s.has 4 = true)
    (hx : exec i s = runOp (popIntegers >>= fun p => if p.2 = 0 then trap EIDIVZ else push (op p.1 p.2)) s)
    {ns : List Byte} (hns : ns = integerRaises s ++ raisedIf (decide (s.top 0 = 0)) EIDIVZ)
    (ht : s.tolerates ns = true) :
    (s.top 0 ≠ 0 → completes i s (((s.drop 4).raiseAll ns).pushed (op (s.top 1) (s.top 0))) (s.spI - 2) 2) ∧
    (s.top 0 = 0 → completes i s ((s.drop 4).raiseAll ns) 0 0) := by
  subst hns
  obtain ⟨hund, hdiv⟩ := (State.tolerates_append s _ _).1 ht
  have hpop := Op.bind_of_ok (f := fun p => if p.2 = 0 then trap EIDIVZ else push (op p.1 p.2))
    (popIntegers_spec h h4 hund)
  refine ⟨fun h0 => completes_two_to_one h h4 hx (hpop.trans ?_), fun h0 => completes_popped hx (hpop.trans ?_)⟩
  · rw [raisedIf_of_not h0, List.append_nil, if_neg h0]
    exact push_after_two_pops h h4 _ _
  · rw [raisedIf_of h0] at hdiv ⊢
    rw [if_pos h0]
    exact trap_queued (by decide) (s := s.drop 4) _ hdiv

/-- Settles O16: the quotient as it is, and the remainder as what the quotient leaves. -/
theorem divideAndRemainder : Obligations.DivideAndRemainder := by
  intro s ns h h4 hns ht
  obtain ⟨hdiv, hdivz⟩ := completes_divided (i := .div) Int.tdiv h h4 rfl hns ht
  obtain ⟨hmod, hmodz⟩ := completes_divided (i := .mod) (fun a b => a - Int.tdiv a b * b) h h4 rfl hns ht
  refine ⟨fun h0 => ⟨hdiv h0, ?_⟩, fun h0 => ⟨hdivz h0, hmodz h0⟩⟩
  rw [Int.tmod_def, Int.mul_comm (s.top 0)]
  exact hmod h0

/-! ## One operand (R241, R263, R266) -/

/-- An operand of integer arithmetic popped and taken: what NEG, INC and DEC begin with. -/
theorem popInteger_bind {s : State} (h : s.wf = true) (h2 : s.has 2 = true)
    (ht : s.tolerates (raisedIf (decide (s.top 0 = -32768)) EIUND) = true) (f : Int → Op Unit) :
    (popw >>= fun w => argi w >>= f) s
      = f (s.top 0) ((s.drop 2).raiseAll (raisedIf (decide (s.top 0 = -32768)) EIUND)) :=
  (Op.bind_of_ok (popw_spec h h2)).trans (Op.bind_of_ok (argi_spec (s := s.drop 2) ht))

theorem State.top_bounds (s : State) (i : Int) : -32768 ≤ s.top i ∧ s.top i ≤ 32767 := by
  have hlow := BitVec.le_toInt (s.word (s.spI - 2 * i))
  have hhigh := BitVec.toInt_lt (x := s.word (s.spI - 2 * i))
  rw [State.top, s16]
  omega

theorem push_after_pop {s : State} (h : s.Sound) (h2 : s.has 2 = true) (ns : List Byte) (v : Int) :
    push v ((s.drop 2).raiseAll ns) = .ok () (((s.drop 2).raiseAll ns).pushed v) :=
  ((h.drop_two h2).raiseAll ns).push_eq (h.drop_room (by decide) h2 (by decide)) v

/-- An instruction that takes one word and pushes one completes where its statements do. -/
theorem completes_one_to_one {i : Instr} {m : Op Unit} {s : State} {ns : List Byte} {v : Int} (h : s.Sound)
    (h2 : s.has 2 = true) (hx : exec i s = runOp m s) (hm : m s = .ok () (((s.drop 2).raiseAll ns).pushed v)) :
    completes i s (((s.drop 2).raiseAll ns).pushed v) s.spI 2 :=
  completes_replaced (vs := [v]) h (by decide) (by decide) h2 (by omega)
    (h.drop_room (n := 2) (by decide) h2 (by decide)) hx hm

/-- INC and DEC: the exact result is tested for overflow. -/
theorem completes_stepped {i : Instr} (d : Int) {s : State} (h : s.Sound) (h2 : s.has 2 = true)
    (hx : exec i s = runOp (popw >>= fun w => argi w >>= fun t => chkovf (t + d) >>= fun z => push z) s)
    {ns : List Byte} (hns : ns = raisedIf (decide (s.top 0 = -32768)) EIUND
      ++ raisedIf (decide (32768 ≤ (s.top 0 + d).natAbs)) EIOVFL)
    (ht : s.tolerates ns = true) :
    completes i s (((s.drop 2).raiseAll ns).pushed (s.top 0 + d)) s.spI 2 := by
  subst hns
  obtain ⟨hund, hovf⟩ := (State.tolerates_append s _ _).1 ht
  refine completes_one_to_one h h2 hx ((popInteger_bind h.wf h2 hund _).trans ?_)
  refine (Op.bind_of_ok (chkovf_spec (s := (s.drop 2).raiseAll _) hovf)).trans ?_
  rw [State.raiseAll_raiseAll]
  exact push_after_pop h h2 _ _

/-- Settles O17: INC leaves the integers at 32767 only, DEC at -32767 and at the undefined -32768. -/
theorem unaryArithmetic : Obligations.UnaryArithmetic := by
  intro s i z ns h h2 hi ht
  have hs := (State.wf_iff_sound s).1 h
  obtain ⟨hlow, hhigh⟩ := s.top_bounds 0
  obtain ⟨rfl, rfl, hns⟩ | ⟨rfl, rfl, hns⟩ | ⟨rfl, rfl, hns⟩ := hi
  · subst hns
    exact completes_one_to_one hs h2 rfl ((popInteger_bind h h2 ht _).trans (push_after_pop hs h2 _ _))
  · have hovf : s.top 0 = 32767 ↔ 32768 ≤ (s.top 0 + 1).natAbs := by omega
    exact completes_stepped 1 hs h2 rfl (by rw [hns, decide_eq_decide.2 hovf]) ht
  · have hovf : s.top 0 ≤ -32767 ↔ 32768 ≤ (s.top 0 + -1).natAbs := by omega
    exact completes_stepped (-1) hs h2 rfl (by rw [hns, decide_eq_decide.2 hovf]) ht

/-! ## Shifts and rotates by other counts (D15, log entry 4) -/

theorem State.Sound.freshened {s : State} (h : s.Sound) (n : Nat) : ({ s with freeCount := n } : State).Sound :=
  { h with }

/-- What shifts and rotates end with for a count outside 0..15: the next free word in the place of the operands. -/
theorem completes_freeWord {i : Instr} {m : Op (Int × Int)} {f : Int × Int → Op Unit} {s : State} {ns : List Byte}
    (h : s.Sound) (h4 : s.has 4 = true) (hx : exec i s = runOp (m >>= f) s)
    (hm : m s = .ok (s.top 1, s.top 0) ((s.drop 4).raiseAll ns))
    (hf : f (s.top 1, s.top 0) = freshWord >>= fun w => push (adr w)) :
    ∃ w : Word, completes i s ({ (s.drop 4).raiseAll ns with freeCount := s.freeCount + 1 }.pushed (adr w))
      (s.spI - 2) 2 := by
  have hu := ((h.drop (by decide) (by decide) h4).raiseAll ns).freshened (s.freeCount + 1)
  have hr : (s.drop 4).room 2 = true := h.drop_room (by decide) h4 (by decide)
  have hsp : (s.drop 4).spI + 2 = s.spI - 2 := by rw [State.drop_spI h.wf (by decide) h4]; omega
  refine ⟨Config.freeWord s.freeCount, ?_⟩
  have hc := completes_pushedAll (i := i) (vs := [adr (Config.freeWord s.freeCount)]) hu hr (s := s) rfl rfl <|
    hx.trans (runOp_of_ok ?_)
  · change completes i s _ ((s.drop 4).spI + 2) 2 at hc
    rwa [hsp] at hc
  · rw [Op.bind_of_ok hm, hf]
    exact hu.push_eq hr _

/-- Settles O19: each of the four takes the branch of the free word. -/
theorem shiftsByOtherCountsLeaveAFreeWord : Obligations.ShiftsByOtherCountsLeaveAFreeWord := by
  intro s und h h4 hcount hund
  have hs := (State.wf_iff_sound s).1 h
  have hout : ¬ (0 ≤ s.top 0 ∧ s.top 0 ≤ 15) := by omega
  have hpair : popWordPair s = .ok (s.top 1, s.top 0) ((s.drop 4).raiseAll []) := by
    rw [State.raiseAll_nil]
    exact popWordPair_spec h h4
  refine ⟨fun ht => ?_, ?rol, ?ror⟩
  · subst hund
    have hpop := popIntegers_spec h h4 ht
    exact ⟨completes_freeWord hs h4 rfl hpop (if_neg hout), completes_freeWord hs h4 rfl hpop (if_neg hout)⟩
  case rol => simpa using completes_freeWord hs h4 (i := .rol) rfl hpair (if_neg hout)
  case ror => simpa using completes_freeWord hs h4 (i := .ror) rfl hpair (if_neg hout)

end Sys2Proof.Machine
end

section
/-! Doubles and reals on the stack (R244 to R253), for whatever formats: operands popped with the check of decision D27,
results pushed as two words; the statements about DAD, DSB, DMU, DDV and DMD, and about FAD, FSB, FMU and FDV. -/

namespace Sys2Proof.Machine

/-! ## Operands of two words (R244) -/

/-- A number of a format is taken as it is; an undefined one raises its error and counts as a free value. -/
theorem operand_checked {α : Type} {m : Op α} {o : Option α} {d : α} {n : Byte} {s : State} (hf : isFatal n = false)
    (hsome : ∀ v, o = some v → m s = .ok v s) (hnone : o = none → m s = (trap n >>= fun _ => pure d) s)
    (ht : s.tolerates (raisedIf o.isNone n) = true) :
    m s = .ok (o.getD d) (s.raiseAll (raisedIf o.isNone n)) := by
  cases o with
  | some v =>
    rw [show raisedIf (some v).isNone n = [] from rfl, State.raiseAll_nil]
    exact hsome v rfl
  | none => exact (hnone rfl).trans (Op.bind_of_ok (trap_of_tolerated hf ht))

theorem dblOperand_spec {s : State} {w0 w1 : Word} (ht : s.tolerates (dblRaises w0 w1) = true) :
    dblOperand w0 w1 s = .ok (dblVal w0 w1) (s.raiseAll (dblRaises w0 w1)) :=
  operand_checked (by decide) (fun _ hv => by rw [dblOperand, hv]; rfl) (fun hv => by rw [dblOperand, hv]) ht

theorem fltOperand_spec {s : State} {w0 w1 : Word} (ht : s.tolerates (fltRaises w0 w1) = true) :
    fltOperand w0 w1 s = .ok (fltVal w0 w1) (s.raiseAll (fltRaises w0 w1)) :=
  operand_checked (by decide) (fun _ hv => by rw [fltOperand, hv]; rfl) (fun hv => by rw [fltOperand, hv]) ht

theorem State.drop_zero (s : State) : s.drop 0 = s := by
  rw [State.drop, Int.sub_zero, State.setSp_spI]

section
variable {s : State} (h : s.wf = true)
include h

/-- A word popped behind earlier pops, whatever was queued between them. -/
theorem popw_behind {n : Int} (h0 : 0 ≤ n) (heven : n % 2 = 0) (hn : s.has (n + 2) = true) (ns : List Byte) :
    popw ((s.drop n).raiseAll ns) = .ok (s16 (s.word (s.spI - n))) ((s.drop (n + 2)).raiseAll ns) := by
  have hle : s.has n = true := State.has_of_le hn (by omega)
  have hw : ((s.drop n).raiseAll ns).wf = true := (State.drop_wf h h0 heven hle).1
  have hp := popw_spec hw (State.drop_has h h0 hle hn)
  rwa [State.raiseAll_top, State.top, State.drop_word, State.drop_spI h h0 hle, Int.mul_zero, Int.sub_zero,
    State.raiseAll_drop, State.drop_drop h h0 hle] at hp

/-- Two words popped for a number of a format: the word on top is the one at the higher address. -/
theorem popTwoWords_bind {α : Type} (f : Word → Word → Op α) {i : Int} (hi : 0 ≤ i) (hn : s.has (2 * i + 4) = true)
    (ns : List Byte) :
    (popw >>= fun w1 => popw >>= fun w0 => f (u16 w0) (u16 w1)) ((s.drop (2 * i)).raiseAll ns)
      = f (s.word (s.spI - 2 * i - 2)) (s.word (s.spI - 2 * i)) ((s.drop (2 * i + 4)).raiseAll ns) := by
  have hhigh := popw_behind h (n := 2 * i) (by omega) (by omega) (State.has_of_le hn (by omega)) ns
  have hlow := popw_behind h (n := 2 * i + 2) (by omega) (by omega) (State.has_of_le hn (by omega)) ns
  rw [Int.add_assoc, ← Int.sub_sub] at hlow
  rw [Op.bind_of_ok hhigh, Op.bind_of_ok hlow, u16_s16, u16_s16]
  rfl

theorem popd_behind {i : Int} (hi : 0 ≤ i) (hn : s.has (2 * i + 4) = true) (ns : List Byte)
    (ht : s.tolerates (s.topDRaises i) = true) :
    popd ((s.drop (2 * i)).raiseAll ns) = .ok (s.topD i) ((s.drop (2 * i + 4)).raiseAll (ns ++ s.topDRaises i)) := by
  rw [← State.raiseAll_raiseAll]
  exact (popTwoWords_bind h dblOperand hi hn ns).trans
    (dblOperand_spec (s := (s.drop (2 * i + 4)).raiseAll ns) ht)

theorem popr_behind {i : Int} (hi : 0 ≤ i) (hn : s.has (2 * i + 4) = true) (ns : List Byte)
    (ht : s.tolerates (s.topRRaises i) = true) :
    popr ((s.drop (2 * i)).raiseAll ns) = .ok (s.topR i) ((s.drop (2 * i + 4)).raiseAll (ns ++ s.topRRaises i)) := by
  rw [← State.raiseAll_raiseAll]
  exact (popTwoWords_bind h fltOperand hi hn ns).trans
    (fltOperand_spec (s := (s.drop (2 * i + 4)).raiseAll ns) ht)

theorem popd_spec (h4 : s.has 4 = true) (ht : s.tolerates (s.topDRaises 0) = true) :
    popd s = .ok (s.topD 0) ((s.drop 4).raiseAll (s.topDRaises 0)) := by
  have hp := popd_behind h (i := 0) (by decide) h4 [] ht
  rwa [Int.mul_zero, State.drop_zero, State.raiseAll_nil] at hp

theorem popr_spec (h4 : s.has 4 = true) (ht : s.tolerates (s.topRRaises 0) = true) :
    popr s = .ok (s.topR 0) ((s.drop 4).raiseAll (s.topRRaises 0)) := by
  have hp := popr_behind h (i := 0) (by decide) h4 [] ht
  rwa [Int.mul_zero, State.drop_zero, State.raiseAll_nil] at hp

theorem popDoubles_spec (h8 : s.has 8 = true) (ht : s.tolerates (s.topDRaises 0 ++ s.topDRaises 2) = true) :
    popDoubles s = .ok (s.topD 2, s.topD 0) ((s.drop 8).raiseAll (s.topDRaises 0 ++ s.topDRaises 2)) := by
  obtain ⟨hright, hleft⟩ := (State.tolerates_append s _ _).1 ht
  calc popDoubles s
      = _ := Op.bind_of_ok (popd_spec h (State.has_of_le h8 (by decide)) hright)
    _ = _ := Op.bind_of_ok (popd_behind h (i := 2) (by decide) h8 _ hleft)

theorem popReals_spec (h8 : s.has 8 = true) (ht : s.tolerates (s.topRRaises 0 ++ s.topRRaises 2) = true) :
    popReals s = .ok (s.topR 2, s.topR 0) ((s.drop 8).raiseAll (s.topRRaises 0 ++ s.topRRaises 2)) := by
  obtain ⟨hright, hleft⟩ := (State.tolerates_append s _ _).1 ht
  calc popReals s
      = _ := Op.bind_of_ok (popr_spec h (State.has_of_le h8 (by decide)) hright)
    _ = _ := Op.bind_of_ok (popr_behind h (i := 2) (by decide) h8 _ hleft)

end

/-! ## Results of two words (R244) -/

section
variable {s : State} (h : s.Sound)
include h

theorem State.Sound.push_two {n : Int} (h0 : 0 ≤ n) (hr : s.room (n + 4) = true) (v w : Int) :
    (push v >>= fun _ => push w) s = .ok () (s.pushedAll [v, w]) ∧ (s.pushedAll [v, w]).Sound ∧
      (s.pushedAll [v, w]).room n = true := by
  have hr2 : s.room 2 = true := by rw [State.room_iff] at hr ⊢; omega
  have hrest : (s.pushed v).room (n + 2) = true := h.pushed_room (by omega) (by rwa [Int.add_assoc]) v
  have hr2' : (s.pushed v).room 2 = true := by rw [State.room_iff] at hrest ⊢; omega
  have hv := h.pushed hr2 v
  exact ⟨(Op.bind_of_ok (h.push_eq hr2 v)).trans (hv.push_eq hr2' w), hv.pushed hr2' w, hv.pushed_room h0 hrest w⟩

theorem State.Sound.pushd_eq (hr : s.room 4 = true) (d : Int) : pushd d s = .ok () (s.pushedD d) :=
  (h.push_two (n := 0) (by decide) hr _ _).1

theorem State.Sound.pushr_room {n : Int} (h0 : 0 ≤ n) (hr : s.room (n + 4) = true) (r : Rat) :
    pushr r s = .ok () (s.pushedR r) ∧ (s.pushedR r).Sound ∧ (s.pushedR r).room n = true :=
  h.push_two h0 hr _ _

theorem State.Sound.pushr_eq (hr : s.room 4 = true) (r : Rat) : pushr r s = .ok () (s.pushedR r) :=
  (h.pushr_room (n := 0) (by decide) hr r).1

end

/-! ## What two operands of two words each leave -/

section
variable {s : State} (h : s.Sound) (h8 : s.has 8 = true)
include h h8

/-- Two words in the place of four: nothing else is written. -/
theorem completes_four_to_two {i : Instr} {m : Op Unit} {ns : List Byte} {v w : Int} (hx : exec i s = runOp m s)
    (hm : m s = .ok () (((s.drop 8).raiseAll ns).pushedAll [v, w])) :
    completes i s (((s.drop 8).raiseAll ns).pushedAll [v, w]) (s.spI - 6) 4 :=
  completes_replaced (vs := [v, w]) h (by decide) (by decide) h8 (by omega)
    (h.drop_room (n := 4) (by decide) h8 (by decide)) hx hm

theorem State.Sound.dropped_eight (ns : List Byte) :
    ((s.drop 8).raiseAll ns).Sound ∧ ((s.drop 8).raiseAll ns).room 8 = true ∧
      ((s.drop 8).raiseAll ns).room 4 = true :=
  ⟨(h.drop (by decide) (by decide) h8).raiseAll ns, h.drop_room (n := 8) (by decide) h8 (by decide),
    h.drop_room (n := 4) (by decide) h8 (by decide)⟩

theorem pushd_after_eight (ns : List Byte) (d : Int) :
    pushd d ((s.drop 8).raiseAll ns) = .ok () (((s.drop 8).raiseAll ns).pushedD d) :=
  have ⟨hs, _, hr⟩ := h.dropped_eight h8 ns
  hs.pushd_eq hr d

theorem pushr_after_eight (ns : List Byte) (r : Rat) :
    pushr r ((s.drop 8).raiseAll ns) = .ok () (((s.drop 8).raiseAll ns).pushedR r) :=
  have ⟨hs, _, hr⟩ := h.dropped_eight h8 ns
  hs.pushr_eq hr r

end

/-! ## Doubles (R245 to R249) -/

/-- DAD, DSB and DMU: the result of the parameter arithmetic behind the test of the exact one. -/
theorem completes_double {i : Instr} (op : DoubleOp) (f : Int → Int → Int) {s : State} (h : s.Sound)
    (h8 : s.has 8 = true)
    (hx : exec i s = runOp (popDoubles >>= fun p => pushDoubleResult op p.1 p.2 (f p.1 p.2)) s) {ns : List Byte}
    (hns : ns = s.topDRaises 0 ++ s.topDRaises 2 ++ raisedIf
      (decide (2147483647 < (f (s.topD 2) (s.topD 0)).natAbs) && Config.dblReport op (s.topD 2) (s.topD 0)) EDOVFL)
    (ht : s.tolerates ns = true) :
    completes i s (((s.drop 8).raiseAll ns).pushedD (Config.dblResult op (s.topD 2) (s.topD 0)
      (f (s.topD 2) (s.topD 0)))) (s.spI - 6) 4 := by
  subst hns
  obtain ⟨hund, hovf⟩ := (State.tolerates_append s _ _).1 ht
  refine completes_four_to_two h h8 hx ?_
  calc _ = _ := Op.bind_of_ok (popDoubles_spec h.wf h8 hund)
    _ = _ := Op.bind_of_ok (require_queued (by decide) (s := s.drop 8) _ hovf)
    _ = _ := pushd_after_eight h h8 _ _

/-- DDV and DMD are the same but for the number they push. -/
theorem completes_double_divided {i : Instr} (f : Int → Int → Int) {s : State} (h : s.Sound) (h8 : s.has 8 = true)
    (hx : exec i s = runOp (popDoubles >>= fun p => pushDoubleQuotient p.2 (f p.1 p.2)) s) {ns : List Byte}
    (hns : ns = s.topDRaises 0 ++ s.topDRaises 2 ++ raisedIf (decide (s.topD 0 = 0)) EIDIVZ)
    (ht : s.tolerates ns = true) :
    (s.topD 0 ≠ 0 → completes i s (((s.drop 8).raiseAll ns).pushedD (f (s.topD 2) (s.topD 0))) (s.spI - 6) 4) ∧
    (s.topD 0 = 0 → completes i s ((s.drop 8).raiseAll ns) 0 0) := by
  subst hns
  obtain ⟨hund, hdiv⟩ := (State.tolerates_append s _ _).1 ht
  have hpop := Op.bind_of_ok (f := fun p => pushDoubleQuotient p.2 (f p.1 p.2)) (popDoubles_spec h.wf h8 hund)
  refine ⟨fun h0 => completes_four_to_two h h8 hx (hpop.trans ?_), fun h0 => completes_popped hx (hpop.trans ?_)⟩
  · rw [raisedIf_of_not h0, List.append_nil, pushDoubleQuotient_spec, if_neg h0]
    exact pushd_after_eight h h8 _ _
  · rw [raisedIf_of h0] at hdiv ⊢
    rw [pushDoubleQuotient, if_pos h0]
    exact trap_queued (by decide) (s := s.drop 8) _ hdiv

/-- Settles O22: each of the three with its exact result, and the two divisions with their quotient or remainder. -/
theorem doubleArithmetic : Obligations.DoubleArithmetic := by
  constructor
  · rintro s i op ds dt d ns h h8 rfl rfl hi hns ht
    have hs := (State.wf_iff_sound s).1 h
    obtain ⟨rfl, rfl, rfl⟩ | ⟨rfl, rfl, rfl⟩ | ⟨rfl, rfl, rfl⟩ := hi
    · exact completes_double .dad (· + ·) hs h8 rfl hns ht
    · exact completes_double .dsb (· - ·) hs h8 rfl hns ht
    · exact completes_double .dmu (· * ·) hs h8 rfl hns ht
  · intro s ns h h8 hns ht
    have hs := (State.wf_iff_sound s).1 h
    obtain ⟨hdiv, hdivz⟩ := completes_double_divided (i := .ddv) Int.tdiv hs h8 rfl hns ht
    obtain ⟨hmod, hmodz⟩ := completes_double_divided (i := .dmd) (fun a b => a - Int.tdiv a b * b) hs h8 rfl hns ht
    refine ⟨fun h0 => ⟨hdiv h0, ?_⟩, fun h0 => ⟨hdivz h0, hmodz h0⟩⟩
    rw [Int.tmod_def, Int.mul_comm (s.topD 0)]
    exact hmod h0

/-! ## Reals (R250 to R253) -/

theorem floatTrapNumber_nonfatal (c : FloatTrap) : isFatal (floatTrapNumber c) = false := by
  cases c <;> decide

/-- The reported conditions are queued in the order they are reported in. -/
theorem raiseReports_queued {s : State} (cs : List FloatTrap) : ∀ ms : List Byte,
    s.tolerates (cs.map floatTrapNumber) = true →
    raiseReports cs (s.raiseAll ms) = .ok () (s.raiseAll (ms ++ cs.map floatTrapNumber)) := by
  induction cs with
  | nil => intro ms _; rw [List.map_nil, List.append_nil]; rfl
  | cons c cs ih =>
    intro ms ht
    obtain ⟨hc, hcs⟩ := (State.tolerates_append s [floatTrapNumber c] (cs.map floatTrapNumber)).1 ht
    rw [List.map_cons, List.append_cons]
    exact (Op.bind_of_ok (trap_queued (floatTrapNumber_nonfatal c) ms hc)).trans (ih _ hcs)

/-- What FAD, FSB, FMU, FDV and FIF raise. -/
def realRaises (op : FloatOp) (s : State) : List Byte :=
  s.topRRaises 0 ++ s.topRRaises 2 ++ (Config.fltReport op (s.topR 2) (s.topR 0)).map floatTrapNumber

/-- Two reals popped and a result of the parameter arithmetic taken. -/
theorem popReals_floatResult {s : State} (h : s.Sound) (h8 : s.has 8 = true) (op : FloatOp) (r : Rat)
    (ht : s.tolerates (realRaises op s) = true) :
    ∃ t, popReals s = .ok (s.topR 2, s.topR 0) t ∧ floatResult op (s.topR 2) (s.topR 0) r t
      = .ok (Config.fltResult op (s.topR 2) (s.topR 0) r) ((s.drop 8).raiseAll (realRaises op s)) := by
  obtain ⟨hund, hrep⟩ := (State.tolerates_append s _ _).1 ht
  exact ⟨_, popReals_spec h.wf h8 hund, Op.bind_of_ok (raiseReports_queued _ (s := s.drop 8) _ hrep)⟩

/-- FAD, FSB, FMU, and FDV for a divisor that is not 0.0. -/
theorem completes_real {i : Instr} (op : FloatOp) (r : Rat) {f : Rat × Rat → Op Unit} {s : State} (h : s.Sound)
    (h8 : s.has 8 = true) (hx : exec i s = runOp (popReals >>= f) s)
    (hf : f (s.topR 2, s.topR 0) = floatResult op (s.topR 2) (s.topR 0) r >>= pushr)
    (ht : s.tolerates (realRaises op s) = true) :
    completes i s (((s.drop 8).raiseAll (realRaises op s)).pushedR (Config.fltResult op (s.topR 2) (s.topR 0) r))
      (s.spI - 6) 4 := by
  obtain ⟨t, hpop, hres⟩ := popReals_floatResult h h8 op r ht
  refine completes_four_to_two h h8 hx ?_
  calc _ = _ := Op.bind_of_ok hpop
    _ = _ := by rw [hf, Op.bind_of_ok hres]
    _ = _ := pushr_after_eight h h8 _ _

/-- FDV by 0.0 (R253): the two words are the parameter's choice (log entry 9). -/
theorem completes_fdv_by_zero {s : State} (h : s.Sound) (h8 : s.has 8 = true)
    (ht : s.tolerates (s.topRRaises 0 ++ s.topRRaises 2 ++ [EFDIVZ]) = true) (h0 : s.topR 0 = 0) :
    completes .fdv s (((s.drop 8).raiseAll (s.topRRaises 0 ++ s.topRRaises 2 ++ [EFDIVZ])).pushedAll
      [adr (Config.fltDivByZero (s.topR 2)).1, adr (Config.fltDivByZero (s.topR 2)).2]) (s.spI - 6) 4 := by
  obtain ⟨hund, hdiv⟩ := (State.tolerates_append s _ _).1 ht
  obtain ⟨hs, _, hr⟩ := h.dropped_eight h8 (s.topRRaises 0 ++ s.topRRaises 2 ++ [EFDIVZ])
  refine completes_four_to_two h h8 rfl ((Op.bind_of_ok (popReals_spec h.wf h8 hund)).trans ?_)
  simp only [h0, if_true]
  exact (Op.bind_of_ok (trap_queued (by decide) (s := s.drop 8) _ hdiv)).trans
    (hs.push_two (n := 0) (by decide) hr _ _).1

/-- Settles O23: FDV by 0.0 on its own, every other case as the parameter arithmetic has it. -/
theorem floatingArithmetic : Obligations.FloatingArithmetic := by
  constructor
  · rintro s i op r ns h h8 hi rfl ht
    have hs := (State.wf_iff_sound s).1 h
    obtain ⟨rfl, rfl, rfl⟩ | ⟨rfl, rfl, rfl⟩ | ⟨rfl, rfl, rfl⟩ | ⟨rfl, rfl, rfl, h0⟩ := hi
    · exact completes_real .fad _ hs h8 rfl rfl ht
    · exact completes_real .fsb _ hs h8 rfl rfl ht
    · exact completes_real .fmu _ hs h8 rfl rfl ht
    · exact completes_real .fdv _ hs h8 rfl (if_neg h0) ht
  · rintro s ns h h8 hd rfl h0
    have ht (ns : List Byte) : s.tolerates ns = true := by rw [State.tolerates, hd, Bool.not_false, Bool.or_true]
    exact ⟨_, _, completes_fdv_by_zero ((State.wf_iff_sound s).1 h) h8 (ht _) h0⟩

end Sys2Proof.Machine
end

section
/-! Reals split in two (R254, R255): integer part and fraction, mantissa and exponent; the statement about FIF and
FEF. -/

namespace Sys2Proof.Machine

/-! ## Integer part and fraction (R254) -/

theorem truncRat_of_nonneg {p : Rat} (hp : 0 ≤ p) : truncRat p = ⌊p⌋ := by
  rw [truncRat, Int.tdiv_eq_ediv_of_nonneg (Rat.num_nonneg.2 hp), Rat.floor_def']

theorem truncRat_neg (p : Rat) : truncRat (-p) = -truncRat p := by
  rw [truncRat, truncRat, Rat.num_neg_eq_neg_num, Rat.den_neg_eq_den, Int.neg_tdiv]

/-- Truncation toward zero, as O24 has it: the integer part is no larger in magnitude, and the fraction is below one and
has no other sign. -/
theorem truncRat_splits_of_nonneg {p : Rat} (hp : 0 ≤ p) :
    |(truncRat p : Rat)| ≤ |p| ∧ |p - truncRat p| < 1 ∧ 0 ≤ p * (p - truncRat p) := by
  rw [truncRat_of_nonneg hp]
  have hn : (0 : Rat) ≤ (⌊p⌋ : Rat) := Int.cast_nonneg (Int.floor_nonneg.2 hp)
  have hle : (⌊p⌋ : Rat) ≤ p := Int.floor_le p
  have hlt : p < ⌊p⌋ + 1 := Int.lt_floor_add_one p
  have hfrac : 0 ≤ p - ⌊p⌋ := sub_nonneg.2 hle
  rw [abs_of_nonneg hn, abs_of_nonneg hp, abs_of_nonneg hfrac]
  exact ⟨hle, by linarith, mul_nonneg hp hfrac⟩

/-- Both parts change their sign with the number. -/
theorem truncRat_splits (p : Rat) :
    |(truncRat p : Rat)| ≤ |p| ∧ |p - truncRat p| < 1 ∧ 0 ≤ p * (p - truncRat p) := by
  obtain hp | hp := le_total 0 p
  · exact truncRat_splits_of_nonneg hp
  · have hneg := truncRat_splits_of_nonneg (neg_nonneg.2 hp)
    have hdiff : -p - ((-truncRat p : Int) : Rat) = -(p - truncRat p) := by push_cast; ring
    rwa [truncRat_neg, hdiff, Int.cast_neg, abs_neg, abs_neg, abs_neg, neg_mul_neg] at hneg

/-! ## Mantissa and exponent (R255) -/

theorem pow2_eq_zpow (e : Int) : pow2 e = (2 : Rat) ^ e := by
  cases e with
  | ofNat n => rfl
  | negSucc n => rw [pow2, zpow_negSucc, one_div]

/-- The binary logarithms of numerator and denominator leave two possible exponents. -/
theorem abs_between_powers {r : Rat} (hr : r ≠ 0) :
    (2 : Rat) ^ ((Nat.log2 r.num.natAbs : Int) - Nat.log2 r.den - 1) ≤ |r| ∧
      |r| < (2 : Rat) ^ ((Nat.log2 r.num.natAbs : Int) - Nat.log2 r.den + 1) := by
  have hnum : r.num.natAbs ≠ 0 := Int.natAbs_ne_zero.2 (Rat.num_ne_zero.2 hr)
  have habs : |r| = (r.num.natAbs : Rat) / r.den := by
    rw [Nat.cast_natAbs, Int.cast_abs, ← Nat.abs_cast r.den, ← abs_div, Rat.num_div_den]
  have hden : (0 : Rat) < r.den := Nat.cast_pos.2 r.den_pos
  have hnlow : (2 : Rat) ^ Nat.log2 r.num.natAbs ≤ r.num.natAbs := mod_cast Nat.log2_self_le hnum
  have hnhigh : (r.num.natAbs : Rat) < 2 ^ (Nat.log2 r.num.natAbs + 1) := mod_cast Nat.lt_log2_self
  have hdlow : (2 : Rat) ^ Nat.log2 r.den ≤ r.den := mod_cast Nat.log2_self_le r.den_ne_zero
  have hdhigh : (r.den : Rat) ≤ 2 ^ (Nat.log2 r.den + 1) := mod_cast Nat.lt_log2_self.le
  have hlow : (2 : Rat) ^ ((Nat.log2 r.num.natAbs : Int) - Nat.log2 r.den - 1)
      = 2 ^ Nat.log2 r.num.natAbs / 2 ^ (Nat.log2 r.den + 1) := by
    rw [sub_sub, zpow_sub₀ two_ne_zero, zpow_natCast]
    rfl
  have hhigh : (2 : Rat) ^ ((Nat.log2 r.num.natAbs : Int) - Nat.log2 r.den + 1)
      = 2 ^ (Nat.log2 r.num.natAbs + 1) / 2 ^ Nat.log2 r.den := by
    rw [sub_add_eq_add_sub, zpow_sub₀ two_ne_zero, zpow_natCast]
    rfl
  rw [habs, hlow, hhigh]
  exact ⟨div_le_div₀ (Nat.cast_nonneg _) hnlow hden hdhigh, div_lt_div₀ hnhigh hdlow (by positivity) (by positivity)⟩

/-- The exponent is the one of the two whose power is the next above the magnitude. -/
theorem exponentOf_bounds {r : Rat} (hr : r ≠ 0) :
    (2 : Rat) ^ (exponentOf r - 1) ≤ |r| ∧ |r| < (2 : Rat) ^ exponentOf r := by
  obtain ⟨hlow, hhigh⟩ := abs_between_powers hr
  have habs : (if 0 ≤ r then r else -r) = |r| := by
    split
    · next h0 => exact (abs_of_nonneg h0).symm
    · next h0 => exact (abs_of_neg (not_le.1 h0)).symm
  simp only [exponentOf, hr, if_false, habs, pow2_eq_zpow]
  split
  · next hlt => exact ⟨hlow, hlt⟩
  · next hge =>
    rw [add_sub_cancel_right]
    exact ⟨not_lt.1 hge, hhigh⟩

theorem mantissaOf_mul_zpow (r : Rat) : mantissaOf r * (2 : Rat) ^ exponentOf r = r := by
  rw [mantissaOf, pow2_eq_zpow]
  exact div_mul_cancel₀ r (zpow_ne_zero _ two_ne_zero)

theorem mantissaOf_bounds {r : Rat} (hr : r ≠ 0) : 1 / 2 ≤ |mantissaOf r| ∧ |mantissaOf r| < 1 := by
  obtain ⟨hlow, hhigh⟩ := exponentOf_bounds hr
  have hpos : (0 : Rat) < 2 ^ exponentOf r := zpow_pos two_pos _
  rw [zpow_sub_one₀ two_ne_zero, mul_comm, ← one_div] at hlow
  rw [mantissaOf, pow2_eq_zpow, abs_div, abs_of_pos hpos]
  exact ⟨(le_div_iff₀ hpos).2 hlow, (div_lt_one hpos).2 hhigh⟩

theorem exponentOf_zero : exponentOf 0 = 0 := if_pos rfl

theorem mantissaOf_zero : mantissaOf 0 = 0 := zero_div _

/-! ## The statement about FIF and FEF -/

theorem State.pushedAll_append (vs ws : List Int) : ∀ s : State,
    (s.pushedAll vs).pushedAll ws = s.pushedAll (vs ++ ws) := by
  induction vs with
  | nil => exact fun _ => rfl
  | cons v vs ih => exact fun s => ih (s.pushed v)

theorem State.pushedR_pushedR (s : State) (q r : Rat) :
    (s.pushedR q).pushedR r = s.pushedAll [adr (Config.fltEncode q).1, adr (Config.fltEncode q).2,
      adr (Config.fltEncode r).1, adr (Config.fltEncode r).2] :=
  State.pushedAll_append [_, _] [_, _] s

theorem State.pushedR_pushed (s : State) (r : Rat) (v : Int) :
    (s.pushedR r).pushed v = s.pushedAll [adr (Config.fltEncode r).1, adr (Config.fltEncode r).2, v] :=
  State.pushedAll_append [_, _] [v] s

/-- FIF (R254): the fraction, then the integer part, of the product the parameter arithmetic gives. -/
theorem completes_fif {s : State} (h : s.Sound) (h8 : s.has 8 = true) {p : Rat}
    (hp : p = Config.fltResult .fif (s.topR 2) (s.topR 0) (s.topR 2 * s.topR 0))
    (ht : s.tolerates (realRaises .fif s) = true) :
    completes .fif s ((((s.drop 8).raiseAll (realRaises .fif s)).pushedR (p - (truncRat p : Rat))).pushedR
      (truncRat p : Rat)) (s.spI - 6) 8 := by
  obtain ⟨t, hpop, hres⟩ := popReals_floatResult h h8 .fif (s.topR 2 * s.topR 0) ht
  rw [← hp] at hres
  obtain ⟨hs, hr, _⟩ := h.dropped_eight h8 (realRaises .fif s)
  obtain ⟨hfrac, hsfrac, hroom⟩ := hs.pushr_room (n := 4) (by decide) hr (p - (truncRat p : Rat))
  rw [State.pushedR_pushedR]
  refine completes_replaced h (by decide) (by decide) h8 (by omega) hr rfl ?_
  rw [← State.pushedR_pushedR]
  exact (Op.bind_of_ok hpop).trans <| (Op.bind_of_ok hres).trans <| (Op.bind_of_ok hfrac).trans <|
    hsfrac.pushr_eq hroom _

/-- FEF (R255): the mantissa, then the exponent. -/
theorem completes_fef {s : State} (h : s.Sound) (h4 : s.has 4 = true) (hr : s.room 2 = true) {ns : List Byte}
    (hns : ns = s.topRRaises 0 ++ raisedIf (Config.fefReport (s.topR 0)) EFPP) (ht : s.tolerates ns = true) :
    completes .fef s ((((s.drop 4).raiseAll ns).pushedR (mantissaOf (s.topR 0))).pushed (exponentOf (s.topR 0)))
      (s.spI - 2) 6 := by
  subst hns
  obtain ⟨hund, hrep⟩ := (State.tolerates_append s _ _).1 ht
  have hs := (h.drop (by decide) (by decide) h4).raiseAll
    (s.topRRaises 0 ++ raisedIf (Config.fefReport (s.topR 0)) EFPP)
  have hr6 : (s.drop 4).room 6 = true := by
    rw [State.drop_room_iff h.wf (by decide) h4]
    rw [State.room_iff] at hr
    omega
  obtain ⟨hman, hsman, hroom⟩ := hs.pushr_room (n := 2) (by decide) hr6 (mantissaOf (s.topR 0))
  rw [State.pushedR_pushed]
  refine completes_replaced h (by decide) (by decide) h4 (by omega) hr6 rfl ?_
  rw [← State.pushedR_pushed]
  exact (Op.bind_of_ok (popr_spec h.wf h4 hund)).trans <|
    (Op.bind_of_ok (require_queued (by decide) (s := s.drop 4) _ hrep)).trans <| (Op.bind_of_ok hman).trans <|
    hsman.push_eq hroom _

/-- Settles O24: the two parts pushed are the model's own, and what they make up is arithmetic. -/
theorem floatingSplits : Obligations.FloatingSplits := by
  intro s p ns h
  have hs := (State.wf_iff_sound s).1 h
  refine ⟨fun h8 hp hns ht => ?fif, fun h4 hr hns ht => ?fef⟩
  case fif =>
    subst hns
    exact ⟨truncRat p, completes_fif hs h8 hp ht, truncRat_splits p⟩
  case fef =>
    refine ⟨mantissaOf (s.topR 0), exponentOf (s.topR 0), completes_fef hs h4 hr hns ht,
      (mantissaOf_mul_zpow _).symm, fun h0 => ?_, mantissaOf_bounds⟩
    rw [h0]
    exact ⟨mantissaOf_zero, exponentOf_zero⟩

end Sys2Proof.Machine
end

section
/-! Pointers and their differences (R260 to R262), words stepped and zeroed in place (R264, R265, R267 to R270): the
statements about ADI, PAD and PSB, and about INL, INE, DEL, DEE, ZRL and ZRE. -/

namespace Sys2Proof.Machine

/-! ## Pointer arithmetic (R260 to R262) -/

theorem popPointers_spec {s : State} (h : s.wf = true) (h4 : s.has 4 = true) :
    popPointers s = .ok (s.topA 1, s.topA 0) (s.drop 4) := by
  have hp : popa (s.drop 2) = .ok (s.topA 1) (s.drop 4) := by simpa using popa_second h h4 []
  exact (Op.bind_of_ok (popa_spec h (State.has_of_le h4 (by decide)))).trans (Op.bind_of_ok hp)

/-- ADI (R260): nothing is tested, the store keeps 16 bits. -/
theorem completes_adi {s : State} (h : s.Sound) (h2 : s.has 2 = true) (k : Int) :
    completes (.adi k) s ((s.drop 2).pushed (s.topA 0 + k)) s.spI 2 := by
  have hc := completes_one_to_one (i := .adi k) (ns := []) (v := s.topA 0 + k) h h2 rfl
  simp only [State.raiseAll_nil] at hc
  refine hc ((Op.bind_of_ok (popa_spec h.wf h2)).trans ?_)
  simpa using push_after_pop h h2 [] (s.topA 0 + k)

/-- PAD (R261): the integer on top is taken as it is, the undefined one too. -/
theorem completes_pad {s : State} (h : s.wf = true) (h4 : s.has 4 = true) :
    completes .pad s ((s.drop 4).pushed (s.topA 1 + s.top 0)) (s.spI - 2) 2 := by
  have hc := completes_two_to_one (i := .pad) (ns := []) (v := s.topA 1 + s.top 0) h h4 rfl
  have hp : popa (s.drop 2) = .ok (s.topA 1) (s.drop 4) := by simpa using popa_second h h4 []
  simp only [State.raiseAll_nil] at hc
  refine hc ((Op.bind_of_ok (popw_spec h (State.has_of_le h4 (by decide)))).trans ((Op.bind_of_ok hp).trans ?_))
  simpa using push_after_two_pops h h4 [] (s.topA 1 + s.top 0)

/-- PSB (R262): the exact difference is tested for overflow. -/
theorem completes_psb {s : State} (h : s.wf = true) (h4 : s.has 4 = true) {ns : List Byte}
    (hns : ns = raisedIf (decide (32768 ≤ (s.topA 1 - s.topA 0).natAbs)) EIOVFL) (ht : s.tolerates ns = true) :
    completes .psb s (((s.drop 4).raiseAll ns).pushed (s.topA 1 - s.topA 0)) (s.spI - 2) 2 := by
  subst hns
  refine completes_two_to_one h h4 rfl ?_
  calc _ = _ := Op.bind_of_ok (popPointers_spec h h4)
    _ = _ := Op.bind_of_ok (chkovf_spec (s := s.drop 4) ht)
    _ = _ := push_after_two_pops h h4 _ _

/-- Settles O20: neither ADI nor PAD has a test that could fail, PSB has one. -/
theorem pointerArithmetic : Obligations.PointerArithmetic := by
  intro s k ns h h2
  exact ⟨completes_adi ((State.wf_iff_sound s).1 h) h2 k, completes_pad h, fun h4 => completes_psb h h4⟩

/-! ## Words changed in place (R264, R265, R267 to R270) -/

/-- INL, INE, DEL and DEE once the address is known, with the step they add. -/
def stepWord (a d : Int) : Op Unit := do
  let w ← memw a
  let t ← argi w
  let z ← chkovf (t + d)
  store a z

section
variable {k : Int} (hk : isX k = true) (s : State)
include hk

theorem exec_inl_eq : exec (.inl k) s = runOp (stepWord (s.lbI + k) 1) s :=
  runOp_congr (Op.bind_of_ok (argx_accepts hk s))

theorem exec_ine_eq : exec (.ine k) s = runOp (stepWord k 1) s :=
  runOp_congr (Op.bind_of_ok (argx_accepts hk s))

theorem exec_del_eq : exec (.del k) s = runOp (stepWord (s.lbI + k) (-1)) s :=
  runOp_congr (Op.bind_of_ok (argx_accepts hk s))

theorem exec_dee_eq : exec (.dee k) s = runOp (stepWord k (-1)) s :=
  runOp_congr (Op.bind_of_ok (argx_accepts hk s))

theorem exec_zrl_eq : exec (.zrl k) s = runOp (store (s.lbI + k) 0) s :=
  runOp_congr (Op.bind_of_ok (argx_accepts hk s))

theorem exec_zre_eq : exec (.zre k) s = runOp (store k 0) s :=
  runOp_congr (Op.bind_of_ok (argx_accepts hk s))

end

/-- What stepping the word at `a` by `d` raises: an undefined word first, then a result that is no integer. -/
def stepRaises (s : State) (a d : Int) : List Byte :=
  raisedIf (decide (s16 (s.word a) = -32768)) EIUND ++ raisedIf (decide (32768 ≤ (s16 (s.word a) + d).natAbs)) EIOVFL

theorem stepWord_eq {s : State} {a d : Int} (ha : s.okword a = true) (ht : s.tolerates (stepRaises s a d) = true) :
    stepWord a d s = .ok () ((s.raiseAll (stepRaises s a d)).putWord a (s16 (s.word a) + d)) := by
  obtain ⟨hund, hovf⟩ := (State.tolerates_append s _ _).1 ht
  calc stepWord a d s
      = _ := Op.bind_of_ok (memw_of_okword ha)
    _ = _ := Op.bind_of_ok (argi_spec hund)
    _ = _ := Op.bind_of_ok (chkovf_spec (s := s.raiseAll _) hovf)
    _ = _ := by rw [State.raiseAll_raiseAll]; exact store_of_okword (s := s.raiseAll _) ha _

/-- An instruction that stores one word, with errors queued before it, writes that word and nothing else. -/
theorem completes_inPlace {i : Instr} {m : Op Unit} {s : State} {a v : Int} {ns : List Byte} (h : s.Sound)
    (ha : s.okword a = true) (hx : exec i s = runOp m s) (hm : m s = .ok () ((s.raiseAll ns).putWord a v)) :
    completes i s ((s.raiseAll ns).putWord a v) a 2 :=
  ⟨hx.trans (runOp_of_ok hm), rfl, storesOnly_putWord (h.raiseAll ns).wf (State.nonneg_of_okword ha) v⟩

theorem completes_zeroed {i : Instr} {s : State} {a : Int} (h : s.Sound) (ha : s.okword a = true)
    (hx : exec i s = runOp (store a 0) s) : completes i s (s.putWord a 0) a 2 := by
  have hm : store a 0 s = .ok () ((s.raiseAll []).putWord a 0) := by
    rw [State.raiseAll_nil]
    exact store_of_okword ha 0
  simpa using completes_inPlace h ha hx hm

/-- Settles O21: the four steps differ in address and step, the two zeros in the address. -/
theorem inPlaceIncrementsAndZeros : Obligations.InPlaceIncrementsAndZeros := by
  rintro s k a d i v ns h hk hi rfl rfl ha
  have hs := (State.wf_iff_sound s).1 h
  refine ⟨fun ht => ?step, ?zrl, ?zre⟩
  case step =>
    have hx : exec i s = runOp (stepWord a d) s := by
      obtain ⟨rfl, rfl, rfl⟩ | ⟨rfl, rfl, rfl⟩ | ⟨rfl, rfl, rfl⟩ | ⟨rfl, rfl, rfl⟩ := hi
      · exact exec_inl_eq hk s
      · exact exec_ine_eq hk s
      · exact exec_del_eq hk s
      · exact exec_dee_eq hk s
    exact completes_inPlace hs ha hx (stepWord_eq ha ht)
  case zrl =>
    rintro rfl
    exact completes_zeroed hs ha (exec_zrl_eq hk s)
  case zre =>
    rintro rfl
    exact completes_zeroed hs ha (exec_zre_eq hk s)

end Sys2Proof.Machine
end

section
/-! Numbers converted between words, doubles and reals (R271 to R276), for whatever formats: rounding to the nearest
integer, and the statement about CID, CIF, CDF, CDI, CFI and CFD. -/

namespace Sys2Proof.Machine

/-! ## Rounding (R9, log entry 18) -/

/-- `n` is a nearest integer, and of two as near the one further from zero. -/
def isRounded (r : Rat) (n : Int) : Prop :=
  |r - n| ≤ 1 / 2 ∧ (|r - n| = 1 / 2 → |r| ≤ |(n : Rat)|)

theorem isRounded.neg {r : Rat} {n : Int} (h : isRounded r n) : isRounded (-r) (-n) := by
  have hdiff : -r - ((-n : Int) : Rat) = -(r - n) := by push_cast; ring
  rw [isRounded, hdiff, Int.cast_neg, abs_neg, abs_neg, abs_neg]
  exact h

theorem isRounded_floor {r : Rat} (hr : 0 ≤ r) : isRounded r (r + 1 / 2).floor := by
  have hle : ((r + 1 / 2).floor : Rat) ≤ r + 1 / 2 := Int.floor_le (r + 1 / 2)
  have hlt : r + 1 / 2 < (r + 1 / 2).floor + 1 := Int.lt_floor_add_one (r + 1 / 2)
  refine ⟨abs_le.2 ⟨by linarith, by linarith⟩, fun htie => ?_⟩
  have hup : r ≤ (r + 1 / 2).floor := by
    obtain heq | heq := (abs_eq (by norm_num)).1 htie <;> linarith
  rwa [abs_of_nonneg hr, abs_of_nonneg (hr.trans hup)]

theorem roundRat_isRounded (r : Rat) : isRounded r (roundRat r) := by
  unfold roundRat
  split
  · next h0 => exact isRounded_floor h0
  · next h0 => simpa using (isRounded_floor (r := -r) (by linarith)).neg

/-! ## Two words in the place of two -/

section
variable {s : State} (h : s.Sound) (h4 : s.has 4 = true)
include h h4

theorem State.Sound.dropped_four (ns : List Byte) :
    ((s.drop 4).raiseAll ns).Sound ∧ ((s.drop 4).raiseAll ns).room 4 = true :=
  ⟨(h.drop (by decide) (by decide) h4).raiseAll ns, h.drop_room (n := 4) (by decide) h4 (by decide)⟩

theorem completes_two_to_two {i : Instr} {m : Op Unit} {ns : List Byte} {v w : Int} (hx : exec i s = runOp m s)
    (hm : m s = .ok () (((s.drop 4).raiseAll ns).pushedAll [v, w])) :
    completes i s (((s.drop 4).raiseAll ns).pushedAll [v, w]) (s.spI - 2) 4 :=
  completes_replaced (vs := [v, w]) h (by decide) (by decide) h4 (by omega)
    (h.drop_room (n := 4) (by decide) h4 (by decide)) hx hm

end

/-! ## Conversions without a check (R271, R273, R275) -/

/-- CID and CIF: two words in the place of one. -/
theorem completes_one_to_two {i : Instr} {m : Int → Op Unit} {s : State} {v w : Int} (h : s.Sound)
    (h2 : s.has 2 = true) (hr : s.room 2 = true) (hx : exec i s = runOp (popw >>= m) s)
    (hm : ∀ u : State, u.Sound → u.room 4 = true → m (s.top 0) u = .ok () (u.pushedAll [v, w])) :
    completes i s ((s.drop 2).pushedAll [v, w]) s.spI 4 := by
  have hr4 : (s.drop 2).room 4 = true := by
    rw [State.drop_room_iff h.wf (by decide) h2]
    rw [State.room_iff] at hr
    omega
  have hc := completes_replaced (i := i) (ns := []) (vs := [v, w]) h (by decide) (by decide) h2
    (show s.spI = s.spI - 2 + 2 by omega) hr4 hx
  rw [State.raiseAll_nil] at hc
  exact hc ((Op.bind_of_ok (popw_spec h.wf h2)).trans (hm _ (h.drop_two h2) hr4))

theorem completes_cdf {s : State} (h : s.Sound) (h4 : s.has 4 = true) (ht : s.tolerates (s.topDRaises 0) = true) :
    completes .cdf s (((s.drop 4).raiseAll (s.topDRaises 0)).pushedR (s.topD 0 : Rat)) (s.spI - 2) 4 := by
  obtain ⟨hs, hr⟩ := h.dropped_four h4 (s.topDRaises 0)
  exact completes_two_to_two h h4 rfl ((Op.bind_of_ok (popd_spec h.wf h4 ht)).trans (hs.pushr_eq hr _))

/-! ## Conversions that may be out of range (R272, R274, R276) -/

/-- The range test of CFI and CFD, as one on the magnitude. -/
theorem outside_iff_lt_abs (b r : Rat) : (r < -b ∨ b < r) ↔ b < |r| := by
  rw [lt_abs, or_comm, lt_neg]

/-- CDI and CFI: a number out of range is popped and its error queued, any other is converted to a word. -/
theorem completes_narrowed {α : Type} {i : Instr} {m : Op α} {c : α → Prop} [DecidablePred c] {n : Byte}
    {f : α → Int} {s : State} {x : α} {und ns : List Byte} (h : s.wf = true) (h4 : s.has 4 = true)
    (hf : isFatal n = false)
    (hx : exec i s = runOp (m >>= fun x => if c x then trap n else push (f x)) s)
    (hm : s.tolerates und = true → m s = .ok x ((s.drop 4).raiseAll und))
    (hns : ns = und ++ raisedIf (decide (c x)) n) (ht : s.tolerates ns = true) :
    (¬ c x → completes i s (((s.drop 4).raiseAll ns).pushed (f x)) (s.spI - 2) 2) ∧
    (c x → completes i s ((s.drop 4).raiseAll ns) 0 0) := by
  subst hns
  obtain ⟨hund, hout⟩ := (State.tolerates_append s _ _).1 ht
  have hpop := Op.bind_of_ok (f := fun x => if c x then trap n else push (f x)) (hm hund)
  refine ⟨fun hc => completes_two_to_one h h4 hx (hpop.trans ?_), fun hc => completes_popped hx (hpop.trans ?_)⟩
  · rw [raisedIf_of_not hc, List.append_nil, if_neg hc]
    exact push_after_two_pops h h4 _ _
  · rw [raisedIf_of hc] at hout ⊢
    rw [if_pos hc]
    exact trap_queued hf (s := s.drop 4) _ hout

/-- CFD (R276) in range: the rounded real as a double. -/
theorem completes_cfd {s : State} (h : s.Sound) (h4 : s.has 4 = true) (hin : |s.topR 0| ≤ 4294967293 / 2)
    (ht : s.tolerates (s.topRRaises 0) = true) :
    completes .cfd s (((s.drop 4).raiseAll (s.topRRaises 0)).pushedD (roundRat (s.topR 0))) (s.spI - 2) 4 := by
  obtain ⟨hs, hr⟩ := h.dropped_four h4 (s.topRRaises 0)
  refine completes_two_to_two h h4 rfl ((Op.bind_of_ok (popr_spec h.wf h4 ht)).trans ?_)
  rw [if_neg (mt (outside_iff_lt_abs _ _).1 hin.not_gt)]
  exact hs.pushd_eq hr _

/-- CFD out of range: the next two free words behind ECFD (log entry 10). -/
theorem completes_cfd_outside {s : State} (h : s.Sound) (h4 : s.has 4 = true) (hout : 4294967293 / 2 < |s.topR 0|)
    (ht : s.tolerates (s.topRRaises 0 ++ [ECFD]) = true) :
    completes .cfd s ({ (s.drop 4).raiseAll (s.topRRaises 0 ++ [ECFD]) with
      freeCount := s.freeCount + 2 }.pushedAll
        [adr (Config.freeWord s.freeCount), adr (Config.freeWord (s.freeCount + 1))]) (s.spI - 2) 4 := by
  obtain ⟨hund, htrap⟩ := (State.tolerates_append s _ _).1 ht
  obtain ⟨hs, hr⟩ := h.dropped_four h4 (s.topRRaises 0 ++ [ECFD])
  have hu := hs.freshened (s.freeCount + 2)
  have hsp : (s.drop 4).spI + 2 = s.spI - 2 := by rw [State.drop_spI h.wf (by decide) h4]; omega
  rw [← hsp]
  refine completes_pushedAll (vs := [_, _]) hu hr rfl rfl <|
    runOp_of_ok ((Op.bind_of_ok (popr_spec h.wf h4 hund)).trans ?_)
  rw [if_pos ((outside_iff_lt_abs _ _).2 hout)]
  exact (Op.bind_of_ok (trap_queued (by decide) (s := s.drop 4) _ htrap)).trans
    (hu.push_two (n := 0) (by decide) hr _ _).1

/-- Settles O25: each conversion behind the pop of its operand, and the three range tests as tests of the magnitude. -/
theorem conversions : Obligations.Conversions := by
  constructor
  · intro s ns h
    have hs := (State.wf_iff_sound s).1 h
    refine ⟨fun h2 hr => ⟨?cid, ?cif⟩, ?cdf⟩
    case cid => exact completes_one_to_two hs h2 hr rfl fun u hu hru => hu.pushd_eq hru _
    case cif => exact completes_one_to_two hs h2 hr rfl fun u hu hru => hu.pushr_eq hru _
    case cdf =>
      rintro h4 rfl ht
      exact completes_cdf hs h4 ht
  · intro s ns h h4
    have hs := (State.wf_iff_sound s).1 h
    refine ⟨fun hns ht => ?cdi, fun hns ht => ?cfi, fun hns ht => ?cfd⟩
    case cdi =>
      obtain ⟨hin, hout⟩ := completes_narrowed (i := .cdi) h h4 (by decide) rfl (popd_spec h h4) hns ht
      exact ⟨fun hle => hin hle.not_gt, hout⟩
    case cfi =>
      rw [← decide_eq_decide.2 (outside_iff_lt_abs (65533 / 2) (s.topR 0))] at hns
      obtain ⟨hin, hout⟩ := completes_narrowed (i := .cfi) h h4 (by decide) rfl (popr_spec h h4) hns ht
      exact ⟨fun hle => ⟨_, hin (mt (outside_iff_lt_abs _ _).1 hle.not_gt), roundRat_isRounded _⟩,
        fun hlt => hout ((outside_iff_lt_abs _ _).2 hlt)⟩
    case cfd =>
      subst hns
      refine ⟨fun hle => ⟨_, ?_, roundRat_isRounded _⟩, fun hlt =>
        ⟨Config.freeWord s.freeCount, Config.freeWord (s.freeCount + 1), ?_⟩⟩
      · rw [raisedIf_of_not hle.not_gt, List.append_nil] at ht ⊢
        exact completes_cfd hs h4 hle ht
      · rw [raisedIf_of hlt] at ht ⊢
        exact completes_cfd_outside hs h4 hlt ht

end Sys2Proof.Machine
end

section
/-! The logical instructions on groups of words (R285 to R293): what their loops leave, and the statement about AND,
IOR, XOR and COM with their stacked forms. -/

namespace Sys2Proof.Machine

/-! ## Sizes of class p (R16), and stacked forms (R200) -/

theorem argp_accepts {k : Int} (hk : isP k = true) (s : State) : argp k s = .ok k s := by
  have hr : require (isP k) EILLINS s = .ok () s := by rw [require_spec, hk]; rfl
  exact Op.bind_of_ok hr

/-- The sizes of class p (R118) are whole words. -/
theorem isP_cases {k : Int} (hk : isP k = true) : ∃ n : Nat, 0 < n ∧ k = 2 * n := by
  simp only [isP, Bool.and_eq_true, decide_eq_true_eq] at hk
  exact ⟨(k / 2).toNat, by omega, by omega⟩

/-- A stacked form completes as its immediate form does from the state behind the pop of the size, with the bytes that
form writes named from the SP of that state. -/
theorem completes_stacked {i j : Instr} {m : Int → Op Unit} {s t : State} {a b n : Int} (h : s.wf = true)
    (h2 : s.has 2 = true) (hi : exec i s = runOp (popw >>= m) s)
    (hj : exec j (s.drop 2) = runOp (m (s.top 0)) (s.drop 2)) (hc : completes j (s.drop 2) t a n)
    (ha : a - (s.drop 2).spI = b - (s.spI - 2)) : completes i s t b n := by
  obtain ⟨hx, hrest, hstores⟩ := hc
  have hb : a = b := by rw [State.drop_spI h (by decide) h2] at ha; omega
  exact ⟨hi.trans ((runOp_congr (Op.bind_of_ok (popw_spec h h2))).trans (hj.symm.trans hx)),
    sameRest.trans (t := s.drop 2) rfl hrest, hb ▸ hstores⟩

/-! ## AND, IOR, XOR (R285) -/

/-- Two groups of words combined, word by word. -/
def combinedWords (op : Word → Word → Word) (vs ws : List Int) : List Int :=
  (vs.zip ws).map (fun p => adr (op (u16 p.1) (u16 p.2)))

section
variable (op : Word → Word → Word) (s : State)

theorem combinedWords_tops_succ (i j : Int) (n : Nat) :
    combinedWords op (s.tops i (n + 1)) (s.tops j (n + 1)) =
      adr (op (u16 (s.top i)) (u16 (s.top j))) :: combinedWords op (s.tops (i + 1) n) (s.tops (j + 1) n) := rfl

@[simp] theorem length_combinedWords_tops (i j : Int) (n : Nat) :
    (combinedWords op (s.tops i n) (s.tops j n)).length = n := by
  simp [combinedWords]

end

theorem logicalPost_words (op : Word → Word → Word) (n : Nat) (s : State) : logicalPost op (2 * n) s =
    (s.drop (2 * n)).storeDown (s.spI - 2 * (2 * n) + 2) (combinedWords op (s.tops n n) (s.tops 0 n)) := by
  rw [logicalPost, toNat_two_mul_half, Int.mul_ediv_cancel_left _ (by decide)]
  rfl

/-- The `j`-th word from the top may be accessed where the frame holds it. -/
theorem State.Sound.okword_in_frame {s : State} (h : s.Sound) {j : Int} (h0 : 0 ≤ j) (hj : s.has (2 * j + 2) = true) :
    s.okword (s.spI - 2 * j) = true := by
  have hlb : 0 ≤ s.lbI := adr_nonneg s.lb
  have := h.sp_even
  have := h.sp_lt
  have := h.hp_le
  rw [State.has_iff] at hj
  rw [State.okword_iff]
  omega

/-- The words on top of the stack are an admitted block. -/
theorem State.Sound.okblock_top {s : State} (h : s.Sound) {n : Nat} (hh : s.has (2 * n) = true) :
    s.okblock (s.spI - 2 * n + 2) (2 * n) = true := by
  have hlb : 0 ≤ s.lbI := adr_nonneg s.lb
  have := h.sp_even
  have := h.hp_even
  have := h.sp_lt
  have := h.hp_le
  rw [State.has_iff] at hh
  rw [State.okblock_iff]
  omega

/-- One turn of the loop of AND, IOR and XOR: the top word combined with the word `m` words below it. -/
def State.combined (s : State) (op : Word → Word → Word) (m : Nat) : State :=
  (s.drop 2).putWord (s.spI - 2 * m) (adr (op (u16 (s.top m)) (u16 (s.top 0))))

section
variable {s : State} (h : s.Sound) {m : Nat}
include h

theorem State.Sound.okword_combined (hm : 0 < m) (hh : s.has (2 * m + 2) = true) :
    (s.drop 2).okword (s.spI - 2 * m) = true := by
  have h2 : s.has 2 = true := State.has_of_le hh (by omega)
  have hbelow := (h.drop_two h2).okword_in_frame (j := m - 1) (by omega)
    (State.drop_has h.wf (by decide) h2 (State.has_of_le hh (by omega)))
  rwa [State.drop_spI h.wf (by decide) h2, show s.spI - 2 - 2 * ((m : Int) - 1) = s.spI - 2 * m by omega] at hbelow

theorem State.Sound.logicalWords_succ (op : Word → Word → Word) (n : Nat) (hm : 0 < m) (hh : s.has (2 * m + 2) = true) :
    logicalWords op (2 * m) (n + 1) s = logicalWords op (2 * m) n (s.combined op m) := by
  have h2 : s.has 2 = true := State.has_of_le hh (by omega)
  have hw := h.okword_combined hm hh
  have ha : (s.drop 2).spI - 2 * m + 2 = s.spI - 2 * m := by rw [State.drop_spI h.wf (by decide) h2]; omega
  calc logicalWords op (2 * m) (n + 1) s
      = _ := Op.bind_of_ok (popw_spec h.wf h2)
    _ = _ := Op.get_bind _ _
    _ = _ := by rw [ha]; exact Op.bind_of_ok (memw_of_okword hw)
    _ = _ := Op.bind_of_ok (store_of_okword hw _)
    _ = _ := by rw [State.combined, State.top]; rfl

/-- The words still to be read are as before: those of B lie above the stored word, those of A below it. -/
theorem State.Sound.combined_tops (op : Word → Word → Word) {n : Nat} (hn : n < m)
    (hh : s.has (2 * m + 2 * (n + 1 : Nat)) = true) :
    (s.combined op m).tops m n = s.tops (m + 1) n ∧ (s.combined op m).tops 0 n = s.tops 1 n := by
  have h2 : s.has 2 = true := State.has_of_le hh (by omega)
  have hsp : (s.drop 2).spI = s.spI - 2 := State.drop_spI h.wf (by decide) h2
  have hstore : storesOnly (s.drop 2) (s.combined op m) (s.spI - 2 * m) 2 :=
    storesOnly_putWord (h.drop_two h2).wf
      (State.nonneg_of_okword (h.okword_combined (by omega) (State.has_of_le hh (by omega)))) _
  have hbase := (s.has_iff _).1 hh
  have hlb : 0 ≤ s.lbI := adr_nonneg s.lb
  rw [hstore.tops_eq rfl n (i := m) (by omega) (by omega), hstore.tops_eq rfl n (i := 0) (by omega) (by omega),
    State.tops_drop hsp, State.tops_drop hsp]
  exact ⟨rfl, rfl⟩

end

/-- The last `n` of `m` words: each word of B is popped and its word of A overwritten, `m` words below. -/
theorem State.Sound.logicalWords_eq (op : Word → Word → Word) {m : Nat} (n : Nat) : ∀ {s : State}, s.Sound → n ≤ m →
    s.has (2 * m + 2 * n) = true → logicalWords op (2 * m) n s =
      .ok () ((s.drop (2 * n)).storeDown (s.spI - 2 * m - 2 * n + 2) (combinedWords op (s.tops m n) (s.tops 0 n))) := by
  induction n with
  | zero =>
    intro s _ _ _
    rw [Nat.cast_zero, Int.mul_zero, State.drop_zero]
    rfl
  | succ n ih =>
    intro s h hnm hh
    have hone : s.has (2 * m + 2) = true := State.has_of_le hh (by omega)
    have h2 : s.has 2 = true := State.has_of_le hh (by omega)
    have hsp : (s.combined op m).spI = s.spI - 2 := by
      rw [State.combined, State.putWord_spI, State.drop_spI h.wf (by decide) h2]
    have hsound : (s.combined op m).Sound := (h.drop_two h2).putWord (h.okword_combined (by omega) hone) _
    have hhas : (s.combined op m).has (2 * m + 2 * n) = true := by
      rw [State.has_iff] at hh ⊢
      rw [hsp]
      change s.lbI ≤ _
      omega
    have hdrop : (s.combined op m).drop (2 * n) =
        (s.drop (2 * (n + 1 : Nat))).putWord (s.spI - 2 * m) (adr (op (u16 (s.top m)) (u16 (s.top 0)))) := by
      rw [show 2 * ((n + 1 : Nat) : Int) = 2 + 2 * n by omega, ← State.drop_drop h.wf (by decide) h2]
      rfl
    obtain ⟨hA, hB⟩ := h.combined_tops op hnm hh
    have hlowest : s.spI - 2 - 2 * m - 2 * n + 2 = s.spI - 2 * m - 2 * (n + 1 : Nat) + 2 := by omega
    have hhighest : s.spI - 2 * m - 2 * (n + 1 : Nat) + 2 + 2 * (n : Int) = s.spI - 2 * m := by omega
    rw [h.logicalWords_succ op n (by omega) hone, ih hsound (by omega) hhas, hA, hB, hsp, hdrop, hlowest]
    rw [combinedWords_tops_succ, State.storeDown, length_combinedWords_tops, hhighest, Int.zero_add]

theorem logicalPre_iff (k : Int) (s : State) : logicalPre k s = true ↔ isP k = true ∧ s.has (2 * k) = true :=
  Bool.and_eq_true_iff

/-- AND, IOR and XOR: the group B is dropped and the group A below it is overwritten. -/
theorem completes_logical {i : Instr} (op : Word → Word → Word) {k : Int} {s : State} (h : s.Sound)
    (hp : logicalPre k s = true) (hx : exec i s = runOp (logical op k) s) :
    completes i s (logicalPost op k s) (s.spI - 2 * k + 2) k := by
  obtain ⟨hk, hh⟩ := (logicalPre_iff k s).1 hp
  obtain ⟨n, _, rfl⟩ := isP_cases hk
  have hB : s.has (2 * n) = true := State.has_of_le hh (by omega)
  have hdropped : (s.drop (2 * n)).Sound := h.drop (by omega) (by omega) hB
  have hlowest : (s.drop (2 * n)).spI - 2 * n + 2 = s.spI - 2 * (2 * n) + 2 := by
    rw [State.drop_spI h.wf (by omega) hB]
    omega
  have hblock := hdropped.okblock_top (n := n) (State.drop_has h.wf (by omega) hB (State.has_of_le hh (by omega)))
  have hstores := hdropped.storesOnly_storeDown (a := (s.drop (2 * n)).spI - 2 * n + 2)
    (combinedWords op (s.tops n n) (s.tops 0 n))
  rw [length_combinedWords_tops, hlowest] at hstores
  rw [hlowest] at hblock
  have hloop : logical op (2 * n) s = .ok () (logicalPost op (2 * n) s) := by
    refine (Op.bind_of_ok (argp_accepts hk s)).trans ?_
    rw [toNat_two_mul_half, logicalPost_words, h.logicalWords_eq op n le_rfl (State.has_of_le hh (by omega)),
      show s.spI - 2 * (n : Int) - 2 * n + 2 = s.spI - 2 * (2 * n) + 2 by omega]
  rw [logicalPost_words] at hloop ⊢
  exact ⟨hx.trans (runOp_of_ok hloop), sameRest.trans (t := s.drop (2 * n)) rfl (sameRest_storeDown _ _ _),
    hstores hblock⟩

/-! ## COM (R292) -/

theorem sameRest_putWords (vs : List Int) : ∀ (s : State) (a : Int), sameRest s (s.putWords a vs) := by
  induction vs with
  | nil => exact fun _ _ => rfl
  | cons v vs ih => exact fun s a => sameRest.trans (t := s.putWord a v) rfl (ih _ _)

/-- The lowest word of an admitted block, and the block above it. -/
theorem State.Sound.okblock_lowest {s : State} (h : s.Sound) {a : Int} {n : Nat}
    (hb : s.okblock a (2 * (n + 1 : Nat)) = true) : s.okword a = true ∧ s.okblock (a + 2) (2 * n) = true := by
  have hw := State.okword_of_okblock h.wf hb (j := 0) (by decide) (by decide) (by omega)
  rw [Int.add_zero] at hw
  refine ⟨hw, ?_⟩
  rw [State.okblock_iff] at hb ⊢
  omega

theorem State.Sound.storesOnly_putWords (vs : List Int) : ∀ {s : State} {a : Int}, s.Sound →
    s.okblock a (2 * vs.length) = true → storesOnly s (s.putWords a vs) a (2 * vs.length) := by
  induction vs with
  | nil => exact fun _ _ _ _ _ => rfl
  | cons v vs ih =>
    intro s a h hb
    obtain ⟨hw, hhigh⟩ := h.okblock_lowest hb
    have hput := storesOnly_putWord h.wf (State.nonneg_of_okword hw) v
    have hrest := ih (h.putWord hw v) hhigh
    rw [List.length_cons, Nat.cast_succ, Int.mul_add]
    exact (hput.widen (by omega) (by omega)).trans (hrest.widen (by omega) (by omega))

/-- The words complemented (R292), as the numbers that are stored. -/
def complemented (ws : List Int) : List Int := ws.map (fun w => adr (~~~ (u16 w)))

/-- Each word is read before it is stored to, and no store meets the words above it. -/
theorem State.Sound.complementWords_eq (n : Nat) : ∀ {s : State} {a : Int}, s.Sound → s.okblock a (2 * n) = true →
    complementWords n a s = .ok () (s.putWords a (complemented (s.wordsAt a n))) := by
  induction n with
  | zero => exact fun _ _ => rfl
  | succ n ih =>
    intro s a h hb
    obtain ⟨hw, hhigh⟩ := h.okblock_lowest hb
    have h0 := State.nonneg_of_okword hw
    have hsame (v : Int) : (s.putWord a v).wordsAt (a + 2) n = s.wordsAt (a + 2) n :=
      (storesOnly_putWord h.wf h0 v).wordsAt_eq n (by omega) (by omega)
    calc complementWords (n + 1) a s
        = _ := Op.bind_of_ok (memw_of_okword hw)
      _ = _ := Op.bind_of_ok (store_of_okword hw _)
      _ = _ := ih (h.putWord hw _) hhigh
      _ = _ := by rw [hsame]; rfl

theorem comPre_iff (k : Int) (s : State) : comPre k s = true ↔ isP k = true ∧ s.has k = true :=
  Bool.and_eq_true_iff

theorem comPost_words (n : Nat) (s : State) : comPost (2 * n) s =
    s.putWords (s.spI - 2 * n + 2) (complemented (s.wordsAt (s.spI - 2 * n + 2) n)) := by
  rw [comPost, toNat_two_mul_half]
  rfl

theorem completes_com {k : Int} {s : State} (h : s.Sound) (hp : comPre k s = true) :
    completes (.com k) s (comPost k s) (s.spI - k + 2) k := by
  obtain ⟨hk, hh⟩ := (comPre_iff k s).1 hp
  obtain ⟨n, _, rfl⟩ := isP_cases hk
  have hblock := h.okblock_top hh
  have hlength : (complemented (s.wordsAt (s.spI - 2 * n + 2) n)).length = n := by simp [complemented]
  have hstores := h.storesOnly_putWords (complemented (s.wordsAt (s.spI - 2 * n + 2) n)) (hlength.symm ▸ hblock)
  rw [hlength] at hstores
  have hloop : complement (2 * n) s = .ok () (comPost (2 * n) s) :=
    calc complement (2 * n) s
        = _ := Op.bind_of_ok (argp_accepts hk s)
      _ = _ := Op.get_bind _ s
      _ = _ := by rw [toNat_two_mul_half, comPost_words, h.complementWords_eq n hblock]
  rw [comPost_words] at hloop ⊢
  exact ⟨runOp_of_ok hloop, sameRest_putWords _ _ _, hstores⟩

/-- Settles O26: one loop for the three operations, one for the complement, and the stacked forms as the immediate ones
behind the pop of the size. -/
theorem logicalGroups : Obligations.LogicalGroups := by
  constructor
  · intro s k h
    have hs := (State.wf_iff_sound s).1 h
    refine ⟨fun hp => ⟨completes_logical _ hs hp rfl, completes_logical _ hs hp rfl, completes_logical _ hs hp rfl⟩,
      fun h2 hp => ?_⟩
    have hs2 := hs.drop_two h2
    exact ⟨completes_stacked h h2 rfl rfl (completes_logical (i := .and (s.top 0)) _ hs2 hp rfl) (by omega),
      completes_stacked h h2 rfl rfl (completes_logical (i := .ior (s.top 0)) _ hs2 hp rfl) (by omega),
      completes_stacked h h2 rfl rfl (completes_logical (i := .xor (s.top 0)) _ hs2 hp rfl) (by omega)⟩
  · intro s k h
    have hs := (State.wf_iff_sound s).1 h
    exact ⟨fun hp => completes_com hs hp, fun h2 hp =>
      completes_stacked h h2 rfl rfl (completes_com (hs.drop_two h2) hp) (by omega)⟩

end Sys2Proof.Machine
end

section
/-! Sets (R297 to R300): a bit tested, words pushed one after another, the statements about INN, INS, SET and SES, and
about the elements of a set that SET makes. -/

namespace Sys2Proof.Machine

/-! ## Elements inside and outside (R297, R299) -/

/-- The test on the number of the word is the one on the number of the bit. -/
theorem outsideSet_iff {n k : Int} (hk : isP k = true) : outsideSet n k = true ↔ ¬ (0 ≤ n ∧ n < 8 * k) := by
  obtain ⟨j, _, rfl⟩ := isP_cases hk
  rw [outsideSet, Bool.or_eq_true, decide_eq_true_eq, decide_eq_true_eq]
  omega

theorem setRaises_inside {n k : Int} (hin : 0 ≤ n ∧ n < 8 * k) : setRaises n k = [] := by
  rw [setRaises, decide_eq_false (by omega), decide_eq_false (by omega)]
  rfl

theorem setRaises_outside {n k : Int} (hout : ¬ (0 ≤ n ∧ n < 8 * k)) : setRaises n k = [ESET] := by
  rw [setRaises, ← Bool.decide_or, raisedIf_of (by omega)]

/-! ## INN (R297) -/

theorem innPre_iff (k : Int) (s : State) : innPre k s = true ↔
    isP k = true ∧ s.has (k + 2) = true ∧ s.tolerates (setRaises (s.top 0) k) = true := by
  simp only [innPre, Bool.and_eq_true, and_assoc]

/-- What INN pushes: whether the number on top is an element of the set of `k` bytes below it. -/
def State.memberBit (s : State) (k : Int) : Int :=
  if 0 ≤ s.top 0 ∧ s.top 0 < 8 * k then
    ofBool ((s.word (s.spI - k + 2 * (s.top 0 / 16))).getLsbD (s.top 0 % 16).toNat)
  else 0

theorem innPost_eq (k : Int) (s : State) :
    innPost k s = ((s.drop (k + 2)).raiseAll (setRaises (s.top 0) k)).pushed (s.memberBit k) := rfl

/-- A word pushed in the place of a set and its element, once the element is popped. -/
theorem State.Sound.newsp_push {s : State} (h : s.Sound) {n : Nat} (hn : s.has (2 * n + 2) = true) (ns : List Byte)
    (v : Int) : (newsp ((s.drop 2).spI - 2 * n) >>= fun _ => push v) ((s.drop 2).raiseAll ns) =
      .ok () (((s.drop (2 * n + 2)).raiseAll ns).pushed v) := by
  have h2 : s.has 2 = true := State.has_of_le hn (by omega)
  have hsp : (s.drop 2).spI = s.spI - 2 := State.drop_spI h.wf (by decide) h2
  have hnew : newsp ((s.drop 2).spI - 2 * n) ((s.drop 2).raiseAll ns) = .ok () ((s.drop (2 * n + 2)).raiseAll ns) := by
    have hok : ((s.drop 2).raiseAll ns).oksp ((s.drop 2).spI - 2 * n) = true := by
      have := h.sp_even
      have := h.sp_lt
      rw [State.has_iff] at hn
      simp only [State.oksp, Bool.and_eq_true, decide_eq_true_eq, hsp]
      change (s.lbI - 2 ≤ _ ∧ _ < s.hpI) ∧ _
      omega
    rw [newsp_spec, if_pos hok, Int.add_comm (2 * (n : Int)), ← State.drop_drop h.wf (by decide) h2]
    rfl
  have hs := (h.drop (by omega) (by omega) hn).raiseAll ns
  exact (Op.bind_of_ok hnew).trans (hs.push_eq (h.drop_room (by omega) hn (by omega)) v)

/-- How INN, SET and their stacked forms begin: the size is taken, the element popped. -/
theorem State.Sound.element_bind {s : State} (h : s.Sound) {k : Int} (hk : isP k = true) (h2 : s.has 2 = true)
    (f : Int → Int → Op Unit) : (argp k >>= fun k => popw >>= f k) s = f k (s.top 0) (s.drop 2) :=
  (Op.bind_of_ok (argp_accepts hk s)).trans (Op.bind_of_ok (popw_spec h.wf h2))

/-- The word of the set that holds the bit of an element inside. -/
theorem State.Sound.memw_element {s : State} (h : s.Sound) {n : Nat} (hn : s.has (2 * n + 2) = true)
    (hin : 0 ≤ s.top 0 ∧ s.top 0 < 8 * (2 * n)) :
    memw ((s.drop 2).spI - 2 * n + 2 + 2 * (s.top 0 / 16)) (s.drop 2) =
      .ok (s16 (s.word (s.spI - 2 * n + 2 * (s.top 0 / 16)))) (s.drop 2) := by
  have h2 : s.has 2 = true := State.has_of_le hn (by omega)
  have hs2 := h.drop_two h2
  have hset : (s.drop 2).has (2 * n) = true :=
    State.drop_has h.wf (by decide) h2 (State.has_of_le hn (Int.add_comm _ _).le)
  have hw := State.okword_of_okblock hs2.wf (hs2.okblock_top hset) (j := 2 * (s.top 0 / 16)) (by omega) (by omega)
    (by omega)
  have haddr : s.spI - 2 - 2 * n + 2 + 2 * (s.top 0 / 16) = s.spI - 2 * n + 2 * (s.top 0 / 16) := by omega
  rw [memw_of_okword hw, State.drop_word, State.drop_spI h.wf (by decide) h2, haddr]

theorem State.Sound.testBit_eq {s : State} (h : s.Sound) {k : Int} (hp : innPre k s = true) :
    testBit k s = .ok () (innPost k s) := by
  obtain ⟨hk, hn, ht⟩ := (innPre_iff k s).1 hp
  obtain ⟨n, hn0, rfl⟩ := isP_cases hk
  have h2 : s.has 2 = true := State.has_of_le hn (by omega)
  refine (h.element_bind hk h2 _).trans ((Op.get_bind _ _).trans ?_)
  rw [innPost_eq, State.memberBit]
  by_cases hin : 0 ≤ s.top 0 ∧ s.top 0 < 8 * (2 * n)
  · rw [if_neg (not_not_intro hin ∘ (outsideSet_iff hk).1), if_pos hin, setRaises_inside hin,
      Op.bind_of_ok (h.memw_element hn hin), u16_s16]
    simpa [bit] using h.newsp_push hn [] _
  · rw [setRaises_outside hin] at ht ⊢
    rw [if_pos ((outsideSet_iff hk).2 hin), if_neg hin]
    exact (Op.bind_of_ok (trap_of_tolerated (s := s.drop 2) (by decide) ht)).trans (h.newsp_push hn _ 0)

theorem completes_inn {k : Int} {s : State} (h : s.Sound) (hp : innPre k s = true) :
    completes (.inn k) s (innPost k s) (s.spI - k) 2 := by
  obtain ⟨hk, hn, _⟩ := (innPre_iff k s).1 hp
  obtain ⟨n, _, rfl⟩ := isP_cases hk
  exact completes_replaced (vs := [_]) h (by omega) (by omega) hn (by omega)
    (h.drop_room (n := 2) (by omega) hn (by omega)) rfl (h.testBit_eq hp)

/-! ## Words pushed one after another -/

theorem State.Sound.pushedAll (vs : List Int) : ∀ {s : State} {n : Int}, s.Sound → 0 ≤ n →
    s.room (2 * vs.length + n) = true →
    (s.pushedAll vs).Sound ∧ (s.pushedAll vs).spI = s.spI + 2 * vs.length ∧ (s.pushedAll vs).room n = true := by
  induction vs with
  | nil => exact fun h _ hr => ⟨h, (Int.add_zero _).symm, by simpa [State.pushedAll] using hr⟩
  | cons v vs ih =>
    intro s n h h0 hr
    rw [List.length_cons, Nat.cast_succ] at hr ⊢
    have h2 : s.room 2 = true := by rw [State.room_iff] at hr ⊢; omega
    have hrest : (s.pushed v).room (2 * vs.length + n) = true :=
      h.pushed_room (by omega) (by rwa [show 2 * (vs.length : Int) + n + 2 = 2 * (vs.length + 1) + n by omega]) v
    obtain ⟨hs, hsp, hroom⟩ := ih (h.pushed h2 v) h0 hrest
    rw [h.spI_pushed h2] at hsp
    exact ⟨hs, hsp.trans (by omega), hroom⟩

theorem State.Sound.top_pushed {s : State} (h : s.Sound) (hr : s.room 2 = true) {v : Int} (h0 : -32768 ≤ v)
    (h1 : v ≤ 32767) : (s.pushed v).top 0 = v := by
  rw [State.top, Int.mul_zero, Int.sub_zero, h.word_pushed hr, s16_u16 h0 h1]

theorem State.pushedAll_lbI (vs : List Int) : ∀ s : State, (s.pushedAll vs).lbI = s.lbI := by
  induction vs with
  | nil => exact fun _ => rfl
  | cons v vs ih => exact fun s => ih (s.pushed v)

/-- A word pushed is the one read back, narrowed, at its place in the list. -/
theorem State.Sound.word_pushedAll (vs : List Int) : ∀ {s : State} (j : Nat), s.Sound →
    s.room (2 * vs.length) = true → j < vs.length →
    (s.pushedAll vs).word (s.spI + 2 + 2 * j) = u16 (vs.getD j 0) := by
  induction vs with
  | nil => exact fun j _ _ hj => absurd hj (Nat.not_lt_zero j)
  | cons v vs ih =>
    intro s j h hr hj
    rw [List.length_cons, Nat.cast_succ] at hr
    have h2 : s.room 2 = true := by rw [State.room_iff] at hr ⊢; omega
    have hsp := h.spI_pushed h2 v
    have hrest : (s.pushed v).room (2 * vs.length) = true := h.pushed_room (by omega) (by rwa [Int.mul_add] at hr) v
    have hge := s.spI_ge
    cases j with
    | zero =>
      have hsame := ((h.pushed h2 v).storesOnly_pushedAll vs hrest).word_eq (x := s.spI + 2) (by omega) (by omega)
      have hword := h.word_pushed h2 v
      rw [hsp] at hword
      rw [Nat.cast_zero, Int.mul_zero, Int.add_zero]
      exact hsame.trans hword
    | succ j =>
      have hword := ih j (h.pushed h2 v) hrest (Nat.lt_of_succ_lt_succ hj)
      rwa [hsp, show s.spI + 2 + 2 + 2 * (j : Int) = s.spI + 2 + 2 * ((j + 1 : Nat) : Int) by omega] at hword

/-- The statements push the words `vs`, wherever there is room for them. -/
def Pushes (m : Op Unit) (vs : List Int) : Prop :=
  ∀ s : State, s.Sound → s.room (2 * vs.length) = true → m s = .ok () (s.pushedAll vs)

theorem pushes_push (v : Int) : Pushes (push v) [v] := fun _ h hr => h.push_eq hr v

theorem Pushes.seq {m m' : Op Unit} {vs ws : List Int} (hm : Pushes m vs) (hm' : Pushes m' ws) :
    Pushes (m >>= fun _ => m') (vs ++ ws) := by
  intro s h hr
  rw [List.length_append, Nat.cast_add, Int.mul_add] at hr
  have hfirst : s.room (2 * vs.length) = true := by rw [State.room_iff] at hr ⊢; omega
  obtain ⟨hs, _, hroom⟩ := h.pushedAll vs (by omega) hr
  rw [Op.bind_of_ok (hm s h hfirst), hm' _ hs hroom, State.pushedAll_append]

theorem pushes_pushTimes (v : Int) (n : Nat) : Pushes (pushTimes v n) (List.replicate n v) := by
  induction n with
  | zero => exact fun _ _ _ => rfl
  | succ n ih => exact (pushes_push v).seq ih

/-! ## SET (R299) -/

/-- The words of the set of `k` bytes with the one element `n`, or of the empty set. -/
def setWords (n k : Int) : List Int :=
  if 0 ≤ n ∧ n < 8 * k then
    List.replicate (n / 16).toNat 0 ++ [2 ^ (n % 16).toNat] ++ List.replicate (k / 2 - n / 16 - 1).toNat 0
  else List.replicate (k / 2).toNat 0

theorem setPost_eq (k : Int) (s : State) :
    setPost k s = ((s.drop 2).raiseAll (setRaises (s.top 0) k)).pushedAll (setWords (s.top 0) k) := rfl

theorem setPre_iff (k : Int) (s : State) : setPre k s = true ↔ isP k = true ∧ s.has 2 = true ∧
    (s.drop 2).room k = true ∧ s.tolerates (setRaises (s.top 0) k) = true := by
  simp only [setPre, Bool.and_eq_true, and_assoc]

theorem length_setWords {k : Int} (hk : isP k = true) (n : Int) : 2 * ((setWords n k).length : Int) = k := by
  obtain ⟨j, _, rfl⟩ := isP_cases hk
  unfold setWords
  split <;> simp only [List.length_append, List.length_replicate, List.length_singleton] <;> omega

theorem State.Sound.singleton_eq {s : State} (h : s.Sound) {k : Int} (hp : setPre k s = true) :
    singleton k s = .ok () (setPost k s) := by
  obtain ⟨hk, h2, hr, ht⟩ := (setPre_iff k s).1 hp
  rw [← length_setWords hk (s.top 0)] at hr
  refine (h.element_bind hk h2 _).trans ?_
  rw [setPost_eq]
  by_cases hin : 0 ≤ s.top 0 ∧ s.top 0 < 8 * k
  · rw [setRaises_inside hin, State.raiseAll_nil, if_neg (not_not_intro hin ∘ (outsideSet_iff hk).1)]
    rw [setWords, if_pos hin, List.append_assoc] at hr ⊢
    exact (pushes_pushTimes 0 _).seq ((pushes_push _).seq (pushes_pushTimes 0 _)) _ (h.drop_two h2) hr
  · rw [setRaises_outside hin] at ht ⊢
    rw [if_pos ((outsideSet_iff hk).2 hin)]
    rw [setWords, if_neg hin] at hr ⊢
    exact (Op.bind_of_ok (trap_of_tolerated (s := s.drop 2) (by decide) ht)).trans
      (pushes_pushTimes 0 _ _ ((h.drop_two h2).raiseAll _) hr)

theorem completes_set {k : Int} {s : State} (h : s.Sound) (hp : setPre k s = true) :
    completes (.xset k) s (setPost k s) s.spI k := by
  obtain ⟨hk, h2, hr, _⟩ := (setPre_iff k s).1 hp
  have hlength := length_setWords hk (s.top 0)
  have hc := completes_replaced (i := .xset k) (vs := setWords (s.top 0) k) h (by decide) (by decide) h2
    (a := s.spI) (by omega) (by rwa [hlength]) rfl (h.singleton_eq hp)
  rwa [hlength] at hc

/-- Settles O27: the stacked forms are the immediate ones behind the pop of the size. -/
theorem setInstructions : Obligations.SetInstructions := by
  intro s k h
  have hs := (State.wf_iff_sound s).1 h
  refine ⟨fun hp => completes_inn hs hp, fun h2 hp => ?ins, fun hp => completes_set hs hp, fun h2 hp => ?ses⟩
  case ins => exact completes_stacked h h2 rfl rfl (completes_inn (hs.drop_two h2) hp) (by omega)
  case ses => exact completes_stacked h h2 rfl rfl (completes_set (hs.drop_two h2) hp) (by omega)

/-! ## The elements of a set that SET makes (R297, R299) -/

/-- The only word of a singleton that is not zero is the one its element is in. -/
theorem setWords_getD {n k : Int} (hin : 0 ≤ n ∧ n < 8 * k) (j : Nat) :
    (setWords n k).getD j 0 = if (j : Int) = n / 16 then 2 ^ (n % 16).toNat else 0 := by
  rw [setWords, if_pos hin]
  obtain hlt | heq | hgt := lt_trichotomy (j : Int) (n / 16)
  · have hlow : j < (n / 16).toNat := by omega
    rw [List.append_assoc, List.getD_append _ _ _ _ (by rwa [List.length_replicate]), List.getD_replicate _ hlow,
      if_neg hlt.ne]
  · have hat : j = (List.replicate (n / 16).toNat (0 : Int)).length := by rw [List.length_replicate]; omega
    rw [List.append_assoc, List.getD_append_right _ _ _ _ hat.ge, Nat.sub_eq_zero_of_le hat.le, if_pos heq]
    rfl
  · have hbeyond : (List.replicate (n / 16).toNat 0 ++ [(2 : Int) ^ (n % 16).toNat]).length ≤ j := by
      rw [List.length_append, List.length_replicate, List.length_singleton]
      omega
    rw [List.getD_append_right _ _ _ _ hbeyond, List.getD_eq_getElem?_getD,
      List.getElem?_getD_replicate_default_eq, if_neg hgt.ne']

theorem getLsbD_u16_two_pow (b : Nat) {c : Nat} (hc : c < 16) : (u16 (2 ^ b)).getLsbD c = decide (b = c) := by
  rw [u16, show (2 : Int) ^ b = ((2 ^ b : Nat) : Int) by push_cast; rfl, BitVec.ofInt_natCast, BitVec.getLsbD_ofNat,
    Nat.testBit_two_pow, decide_eq_true hc, Bool.true_and]

/-- In the words of the set with the one element `n`, only the bit of `n` is set. -/
theorem getLsbD_setWords {n m k : Int} (hn : 0 ≤ n ∧ n < 8 * k) (hm : 0 ≤ m) :
    (u16 ((setWords n k).getD (m / 16).toNat 0)).getLsbD (m % 16).toNat = decide (m = n) := by
  rw [setWords_getD hn]
  split
  · next hword =>
    rw [getLsbD_u16_two_pow _ (by omega)]
    exact decide_eq_decide.2 (by omega)
  · next hword =>
    rw [decide_eq_false (by rintro rfl; omega)]
    exact BitVec.getLsbD_zero

theorem State.memberBit_bounds (s : State) (k : Int) : 0 ≤ s.memberBit k ∧ s.memberBit k ≤ 1 := by
  unfold State.memberBit
  split
  · exact ofBool_bounds _
  · decide

theorem State.Sound.top_innPost {s : State} (h : s.Sound) {k : Int} (hp : innPre k s = true) :
    (innPost k s).top 0 = s.memberBit k := by
  obtain ⟨hk, hn, _⟩ := (innPre_iff k s).1 hp
  obtain ⟨n, _, rfl⟩ := isP_cases hk
  obtain ⟨hlow, hhigh⟩ := s.memberBit_bounds (2 * n)
  rw [innPost_eq]
  exact ((h.drop (by omega) (by omega) hn).raiseAll _).top_pushed (h.drop_room (by omega) hn (by omega)) (by omega)
    (by omega)

section
variable {s : State} (h : s.Sound) {vs : List Int} {k m : Int} (hk : 2 * (vs.length : Int) = k)
  (hr : s.room (k + 2) = true) (h0 : 0 ≤ m) (hm : m < 8 * k) (hmax : m ≤ 32767)
include h hk hr h0 hm hmax

/-- INN finds the bit of `m` in the words pushed before it. -/
theorem State.Sound.memberBit_pushed : ((s.pushedAll vs).pushed m).memberBit k =
    ofBool ((u16 (vs.getD (m / 16).toNat 0)).getLsbD (m % 16).toNat) := by
  subst hk
  obtain ⟨hset, hsp, hroom⟩ := h.pushedAll vs (by decide) hr
  have hfits : s.room (2 * vs.length) = true := by rw [State.room_iff] at hr ⊢; omega
  have hge := s.spI_ge
  have haddr : (s.pushedAll vs).spI + 2 - 2 * vs.length + 2 * (m / 16) = s.spI + 2 + 2 * ((m / 16).toNat : Int) := by
    omega
  rw [State.memberBit, hset.top_pushed hroom (by omega) hmax, if_pos ⟨h0, hm⟩, hset.spI_pushed hroom, haddr,
    (hset.storesOnly_pushed m).word_eq (by omega) (by omega), h.word_pushedAll vs _ hfits (by omega)]

/-- INN completes on an element inside and words pushed before it. -/
theorem State.Sound.innPre_pushed (hp : isP k = true) : innPre k ((s.pushedAll vs).pushed m) = true := by
  obtain ⟨hset, hsp, hroom⟩ := h.pushedAll vs (n := 2) (by decide) (by rwa [hk])
  have hlb : ((s.pushedAll vs).pushed m).lbI = s.lbI := State.pushedAll_lbI vs s
  have hle := h.lb_le
  rw [innPre_iff, hset.top_pushed hroom (by omega) hmax, setRaises_inside ⟨h0, hm⟩, State.has_iff,
    hset.spI_pushed hroom, hlb, hsp]
  exact ⟨hp, by omega, rfl⟩

end

/-- Settles O28: the word INN reads is the one SET pushed for that part of the set. -/
theorem setMakesASingleton : Obligations.SetMakesASingleton := by
  rintro s t k n m h hp rfl hn0 hn hm0 hm hmax hroom rfl
  have hs := (State.wf_iff_sound s).1 h
  obtain ⟨hk, h2, _, _⟩ := (setPre_iff k s).1 hp
  have hs2 := hs.drop_two h2
  have hlength := length_setWords hk (s.top 0)
  have hr : (s.drop 2).room (k + 2) = true := by
    rw [State.room_iff] at hroom
    rw [State.drop_room_iff h (by decide) h2]
    omega
  obtain ⟨hset, _, hr2⟩ := hs2.pushedAll (setWords (s.top 0) k) (n := 2) (by decide) (by rwa [hlength])
  have hpre := hs2.innPre_pushed hlength hr hm0 hm hmax hk
  have hbit := hs2.memberBit_pushed hlength hr hm0 hm hmax
  rw [getLsbD_setWords ⟨hn0, hn⟩ hm0] at hbit
  rw [setPost_eq, setRaises_inside ⟨hn0, hn⟩, State.raiseAll_nil]
  exact ⟨completes_inn (hset.pushed hr2 m) hpre, ((hset.pushed hr2 m).top_innPost hpre).trans hbit⟩

end Sys2Proof.Machine
end

section
/-! Arrays, compares and tests (R305 to R325): an element addressed, loaded and stored, two operands or two blocks
compared, a word tested; the statements about AAR, LAR, SAR and their stacked forms, about CMI, CMP, CMD, CMF, CMU and
CMS, and about TLT, TLE, TEQ, TNE, TGE and TGT. -/

namespace Sys2Proof.Machine

/-! ## Stacked forms with a popped address (R200) -/

/-- The same as `completes_stacked` where the operand is popped as an address. -/
theorem completes_stacked_popa {i j : Instr} {m : Int → Op Unit} {s t : State} {a b n : Int} (h : s.Sound)
    (h2 : s.has 2 = true) (hc : completes j (s.drop 2) t a n) (hi : exec i s = runOp (popa >>= m) s)
    (hj : exec j (s.drop 2) = runOp (m (s.topA 0)) (s.drop 2)) (ha : (s.drop 2).spI = s.spI - 2 → a = b) :
    completes i s t b n := by
  obtain ⟨hx, hrest, hstores⟩ := hc
  obtain rfl := ha (State.drop_spI h.wf (by decide) h2)
  exact ⟨hi.trans ((runOp_congr (Op.bind_of_ok (popa_spec h.wf h2))).trans (hj.symm.trans hx)),
    sameRest.trans (t := s.drop 2) rfl hrest, hstores⟩

/-! ## The element behind its subscript calculation (R305, R306, R308) -/

theorem State.raiseAll_wordsAt (s : State) (ns : List Byte) (n : Nat) :
    ∀ a : Int, (s.raiseAll ns).wordsAt a n = s.wordsAt a n := by
  induction n with
  | zero => exact fun _ => rfl
  | succ n ih => exact fun a => congrArg (s16 (s.word a) :: ·) (ih (a + 2))

/-- Neither pops nor queued errors change an object in memory. -/
theorem State.objectAt_drop_raiseAll (s : State) (m : Int) (ns : List Byte) (a k : Int) :
    ((s.drop m).raiseAll ns).objectAt a k = s.objectAt a k := by
  rw [State.objectAt, State.objectAt, State.raiseAll_wordsAt, State.drop_wordsAt]
  rfl

/-- LAR, SAR and their stacked forms up to the move they end with. -/
theorem arrayMove_eq (move : Int → Int → Op Unit) {s : State} {x : Int} (h : s.Sound) (hp : arrayPre x s = true) :
    (argx x >>= fun x => arraycalc x >>= fun a => memw (x + 4) >>= fun size => move size a) s
      = move (s.arraySize x) (arrayAddress x s) ((s.drop 4).raiseAll (arrayRaises x s)) := by
  obtain ⟨hx, h4, hb, _⟩ := (arrayPre_iff x s).1 hp
  have hs4 := h.drop (by decide) (by decide) h4
  have hsize : memw (x + 4) ((s.drop 4).raiseAll (arrayRaises x s))
      = .ok (s.arraySize x) ((s.drop 4).raiseAll (arrayRaises x s)) :=
    memw_of_okword (State.okword_of_okblock hs4.wf hb (by decide) (by decide) (by decide))
  exact (Op.bind_of_ok (argx_accepts hx s)).trans <|
    (Op.bind_of_ok (arraycalc_spec h.wf hp)).trans (Op.bind_of_ok hsize)

/-- Behind two pops the object starts two words nearer to the top, and may be popped where it could be before. -/
theorem State.Sound.object_drop_four {s : State} (h : s.Sound) (h4 : s.has 4 = true) {a k : Int}
    (hp : s.okpop 2 a k = true) :
    (s.drop 4).okpop 0 a k = true ∧ (s.drop 4).popObject 0 a k = s.popObject 2 a k := by
  have h2 : s.has 2 = true := State.has_of_le h4 (by decide)
  have hw2 := (h.drop_two h2).wf
  have h22 : (s.drop 2).has 2 = true := State.drop_has h.wf (by decide) h2 h4
  rw [show s.drop 4 = (s.drop 2).drop 2 from (State.drop_drop h.wf (by decide) h2 2).symm]
  exact ⟨State.okpop_drop hw2 h22 (State.okpop_drop h.wf h2 hp),
    (State.popObject_drop hw2 h22 0 a k).trans (State.popObject_drop h.wf h2 1 a k)⟩

/-! ## AAR, LAR, SAR (R306, R308, R310) -/

theorem larPre_iff (x : Int) (s : State) : larPre x s = true ↔
    arrayPre x s = true ∧ isY (s.arraySize x) = true ∧
      (s.drop 4).okobject (arrayAddress x s) (s.arraySize x) = true ∧
      (s.drop 4).room (stackSize (s.arraySize x)) = true := by
  simp only [larPre, Bool.and_eq_true, and_assoc]

theorem sarPre_iff (x : Int) (s : State) : sarPre x s = true ↔
    arrayPre x s = true ∧ isY (s.arraySize x) = true ∧ s.okpop 2 (arrayAddress x s) (s.arraySize x) = true := by
  simp only [sarPre, Bool.and_eq_true, and_assoc]

section
variable {s : State} {x : Int} (h : s.Sound)
include h

/-- The address takes the place of the index and the address of the array. -/
theorem completes_aar (hp : arrayPre x s = true) : completes (.aar x) s (aarPost x s) (s.spI - 2) 2 := by
  obtain ⟨hx, h4, _⟩ := (arrayPre_iff x s).1 hp
  refine completes_two_to_one h.wf h4 rfl ?_
  calc _ = _ := Op.bind_of_ok (argx_accepts hx s)
    _ = _ := Op.bind_of_ok (arraycalc_spec h.wf hp)
    _ = _ := push_after_two_pops h.wf h4 _ _

/-- The element takes their place. -/
theorem completes_lar (hp : larPre x s = true) :
    completes (.lar x) s (larPost x s) (s.spI - 2) (stackSize (s.arraySize x)) := by
  obtain ⟨ha, hk, ho, hr⟩ := (larPre_iff x s).1 hp
  obtain ⟨_, h4, _⟩ := (arrayPre_iff x s).1 ha
  have hs4 := (h.drop (by decide) (by decide) h4).raiseAll (arrayRaises x s)
  have hpush := hs4.pushx_eq hk ho hr
  rw [State.objectAt_drop_raiseAll] at hpush
  rw [← s.length_objectAt (arrayAddress x s) hk] at hr ⊢
  exact completes_replaced h (by decide) (by decide) h4 (by omega) hr rfl ((arrayMove_eq pushx h ha).trans hpush)

/-- The element is popped from below them; nothing but the element of the array is written. -/
theorem completes_sar (hp : sarPre x s = true) :
    completes (.sar x) s (sarPost x s) (arrayAddress x s) (s.arraySize x) := by
  obtain ⟨ha, hk, ho⟩ := (sarPre_iff x s).1 hp
  obtain ⟨_, h4, _⟩ := (arrayPre_iff x s).1 ha
  have hraised := h.raiseAll (arrayRaises x s)
  obtain ⟨hok, hobject⟩ := hraised.object_drop_four h4 ho
  have hpop := (hraised.drop (by decide) (by decide) h4).popx_eq hk hok
  rw [hobject] at hpop
  exact ⟨runOp_of_ok ((arrayMove_eq popx h ha).trans hpop),
    sameRest.trans (t := s.raiseAll (arrayRaises x s)) rfl (sameRest_popObject _ _ _ _),
    hraised.storesOnly_popObject (by decide) hk ho⟩

end

/-- Settles O29: the stacked forms are the immediate ones behind the pop of the descriptor's address. -/
theorem arrayInstructions : Obligations.ArrayInstructions := by
  intro s x h
  have hs := (State.wf_iff_sound s).1 h
  refine ⟨completes_aar hs, completes_lar hs, completes_sar hs, fun h2 hp => ?aas, fun h2 hp => ?las,
    fun h2 hp => ?sas⟩
  case aas => exact completes_stacked_popa hs h2 (completes_aar (hs.drop_two h2) hp) rfl rfl (by omega)
  case las => exact completes_stacked_popa hs h2 (completes_lar (hs.drop_two h2) hp) rfl rfl (by omega)
  case sas => exact completes_stacked_popa hs h2 (completes_sar (hs.drop_two h2) hp) rfl rfl fun _ => rfl

/-! ## A number pushed in the place of what it is made from (R313 to R316, R320 to R325) -/

/-- Compares and tests: operands are popped, with errors queued or none, and one number made from them is pushed. -/
theorem completes_popped_push {α : Type} {i : Instr} {m : Op α} (f : α → Int) {s : State} {v : α} {n a z : Int}
    {ns : List Byte} (h : s.Sound) (h2 : 2 ≤ n) (heven : n % 2 = 0) (hn : s.has n = true) (ha : a = s.spI - n + 2)
    (hm : m s = .ok v ((s.drop n).raiseAll ns)) (hx : exec i s = runOp (m >>= fun v => push (f v)) s) (hz : f v = z) :
    completes i s (((s.drop n).raiseAll ns).pushed z) a 2 := by
  subst hz
  have hr : (s.drop n).room 2 = true := h.drop_room (by omega) hn h2
  have hpush := ((h.drop (by omega) heven hn).raiseAll ns).push_eq hr (f v)
  exact completes_replaced (vs := [f v]) h (by omega) heven hn ha hr hx ((Op.bind_of_ok hm).trans hpush)

/-- The same for operands that are taken as they are. -/
theorem completes_popped_push_unchecked {α : Type} {i : Instr} {m : Op α} (f : α → Int) {s : State} {v : α}
    {n a z : Int} (h : s.Sound) (h2 : 2 ≤ n) (heven : n % 2 = 0) (hn : s.has n = true) (ha : a = s.spI - n + 2)
    (hm : m s = .ok v (s.drop n)) (hx : exec i s = runOp (m >>= fun v => push (f v)) s) (hz : f v = z) :
    completes i s ((s.drop n).pushed z) a 2 := by
  rw [← State.raiseAll_nil (s.drop n)] at hm ⊢
  exact completes_popped_push f h h2 heven hn ha hm hx hz

/-! ## Blocks compared (R317) -/

/-- The loop from the `i`-th word on: it reads the words of both blocks from the top down and changes nothing. -/
theorem State.Sound.blockcmpWords_eq {s : State} (h : s.Sound) {m : Int} (hm : 0 ≤ m) (n : Nat) : ∀ {i : Int},
    0 ≤ i → s.has (2 * (m + i + n)) = true →
    blockcmpWords (2 * m) n (2 * i) s = .ok (blockOrder (s.tops (m + i) n) (s.tops i n)) s := by
  induction n with
  | zero => exact fun _ _ => rfl
  | succ n ih =>
    intro i hi hh
    have hupper : mema (s.spI - 2 * i) s = .ok (s.topA i) s :=
      mema_of_okword (h.okword_in_frame hi (State.has_of_le hh (by omega)))
    have hlower : mema (s.spI - 2 * m - 2 * i) s = .ok (s.topA (m + i)) s := by
      rw [Int.sub_sub, ← Int.mul_add]
      exact mema_of_okword (h.okword_in_frame (by omega) (State.has_of_le hh (by omega)))
    have hrest := ih (i := i + 1) (by omega) (State.has_of_le hh (by omega))
    rw [Int.mul_add, ← Int.add_assoc] at hrest
    have horder : blockOrder (s.tops (m + i) (n + 1)) (s.tops i (n + 1)) =
        if s.topA (m + i) < s.topA i then -1 else if s.topA i < s.topA (m + i) then 1
        else blockOrder (s.tops (m + i + 1) n) (s.tops (i + 1) n) := by
      rw [State.tops, State.tops, blockOrder, State.top, State.top, u16_s16, u16_s16]
      rfl
    rw [horder]
    refine (Op.get_bind _ s).trans ((Op.bind_of_ok hupper).trans ((Op.bind_of_ok hlower).trans ?_))
    split_ifs
    · rfl
    · rfl
    · exact hrest

/-- SP may be lowered by what the frame holds. -/
theorem State.Sound.newsp_drop {s : State} (h : s.Sound) {n : Int} (h0 : 0 ≤ n) (heven : n % 2 = 0)
    (hn : s.has n = true) : newsp (s.spI - n) s = .ok () (s.drop n) := by
  have hok : s.oksp (s.spI - n) = true := by
    have := h.sp_even
    have := h.sp_lt
    rw [State.has_iff] at hn
    simp only [State.oksp, Bool.and_eq_true, decide_eq_true_eq]
    omega
  rw [newsp_spec, if_pos hok]
  rfl

theorem cmuPre_iff (k : Int) (s : State) : cmuPre k s = true ↔ isP k = true ∧ s.has (2 * k) = true :=
  Bool.and_eq_true_iff

theorem cmuPost_words (n : Nat) (s : State) :
    cmuPost (2 * n) s = (s.drop (2 * (2 * n))).pushed (blockOrder (s.tops n n) (s.tops 0 n)) := by
  rw [cmuPost, toNat_two_mul_half, Int.mul_ediv_cancel_left _ (by decide)]

theorem completes_cmu {k : Int} {s : State} (h : s.Sound) (hp : cmuPre k s = true) :
    completes (.cmu k) s (cmuPost k s) (s.spI - 2 * k + 2) 2 := by
  obtain ⟨hk, hh⟩ := (cmuPre_iff k s).1 hp
  obtain ⟨n, hn, rfl⟩ := isP_cases hk
  have hr : (s.drop (2 * (2 * n))).room 2 = true := h.drop_room (by omega) hh (by omega)
  have hdropped := h.drop (by omega) (by omega) hh
  have hloop := h.blockcmpWords_eq (Int.natCast_nonneg n) n (i := 0) le_rfl (State.has_of_le hh (by omega))
  rw [Int.mul_zero, Int.add_zero] at hloop
  have hblock : blockcmp (2 * n) s = .ok () (cmuPost (2 * n) s) :=
    calc blockcmp (2 * n) s
        = _ := Op.bind_of_ok (argp_accepts hk s)
      _ = _ := by rw [toNat_two_mul_half]; exact Op.bind_of_ok hloop
      _ = _ := Op.get_bind _ s
      _ = _ := Op.bind_of_ok (h.newsp_drop (by omega) (by omega) hh)
      _ = _ := by rw [cmuPost_words]; exact hdropped.push_eq hr _
  rw [cmuPost_words] at hblock ⊢
  rw [← State.drop_spI h.wf (by omega) hh]
  exact completes_pushedAll (vs := [_]) hdropped hr rfl rfl (runOp_of_ok hblock)

/-- Settles O30: four compares of two popped operands, one loop over two blocks, and CMS as CMU behind the pop of the
size. -/
theorem compareResults : Obligations.CompareResults := by
  constructor
  · intro s ns h h4
    have hs := (State.wf_iff_sound s).1 h
    refine ⟨?cmi, ?cmp, fun h8 hns ht => ?cmd, fun h8 hns ht => ?cmf⟩
    case cmi =>
      exact completes_popped_push_unchecked (fun p : Int × Int => compareInt p.1 p.2) hs (by decide) (by decide) h4
        (by omega) (popWordPair_spec h h4) rfl rfl
    case cmp =>
      exact completes_popped_push_unchecked (fun p : Int × Int => compareInt p.1 p.2) hs (by decide) (by decide) h4
        (by omega) (popPointers_spec h h4) rfl rfl
    case cmd =>
      subst hns
      exact completes_popped_push (fun p : Int × Int => compareInt p.1 p.2) hs (by decide) (by decide) h8 (by omega)
        (popDoubles_spec h h8 ht) rfl rfl
    case cmf =>
      subst hns
      exact completes_popped_push (fun p : Rat × Rat => compareRat p.1 p.2) hs (by decide) (by decide) h8 (by omega)
        (popReals_spec h h8 ht) rfl rfl
  · intro s k h
    have hs := (State.wf_iff_sound s).1 h
    exact ⟨completes_cmu hs, fun h2 hp =>
      completes_stacked h h2 rfl rfl (completes_cmu (hs.drop_two h2) hp) (by omega)⟩

/-! ## Tests (R320 to R325) -/

/-- A test of the word on top, whichever it is. -/
theorem completes_test {i : Instr} (p : Int → Bool) {s : State} (h : s.Sound) (h2 : s.has 2 = true)
    (hx : exec i s = runOp (popw >>= fun w => push (ofBool (p w))) s) :
    completes i s ((s.drop 2).pushed (if p (s.top 0) then 1 else 0)) s.spI 2 :=
  completes_popped_push_unchecked (fun w => ofBool (p w)) h (by decide) (by decide) h2 (by omega) (popw_spec h.wf h2)
    hx rfl

/-- Settles O31: the opcodes one by one, and the six tests by the relation to 0 each decides. -/
theorem testInstructions : Obligations.TestInstructions := by
  refine ⟨by decide, by decide, by decide, by decide, by decide, by decide, fun s i c h h2 hi => ?_⟩
  have hs := (State.wf_iff_sound s).1 h
  obtain ⟨rfl, rfl⟩ | ⟨rfl, rfl⟩ | ⟨rfl, rfl⟩ | ⟨rfl, rfl⟩ | ⟨rfl, rfl⟩ | ⟨rfl, rfl⟩ := hi
  · exact completes_test (fun w => decide (w < 0)) hs h2 rfl
  · exact completes_test (fun w => decide (w ≤ 0)) hs h2 rfl
  · exact completes_test (fun w => decide (w = 0)) hs h2 rfl
  · exact completes_test (fun w => decide (w ≠ 0)) hs h2 rfl
  · exact completes_test (fun w => decide (0 ≤ w)) hs h2 rfl
  · exact completes_test (fun w => decide (0 < w)) hs h2 rfl

end Sys2Proof.Machine
end

section
/-! Branches (R330 to R344): the short and the long form of a line decoded, a jump whose distance and target are tested,
a branch behind popped operands; the statements about BRF and BRB and about the twelve conditional branches. -/

namespace Sys2Proof.Machine

/-! ## The two forms of a line without minis (R102, R104) -/

/-- The two bytes of a long operand, read as one signed word. -/
theorem sext16_eq_toInt (hi lo : Byte) : sext16 hi lo = (hi ++ lo).toInt := by
  have hhi : hi.toInt = if 128 ≤ hi.toNat then (hi.toNat : Int) - 256 else hi.toNat := by
    rw [BitVec.toInt_eq_toNat_cond]
    split_ifs <;> omega
  rw [sext16, ← hhi, BitVec.toInt_append]
  rfl

theorem decode_short {op : Byte} {r : Row} (he : mapEntry false op = some (.short r 0)) (b : Byte) :
    decode true [op, b] = .instr (r.build b.toNat) 2 := by
  have hdec := (decode_true_escaped he [b]).trans (Entry.decode_of_takes (.short r 0 b) 1 [])
  rwa [Nat.cast_zero, Int.mul_zero, Int.zero_add] at hdec

theorem decode_escaped_long {op : Byte} {r : Row} (he : mapEntry true op = some (.long r)) (hi lo : Byte) :
    decode true [0#8, op, hi, lo] = .instr (r.build (hi ++ lo).toInt) 4 := by
  have hdec := (decode_true_escaped he [hi, lo]).trans (Entry.decode_of_takes (.long r hi lo) 2 [])
  rwa [sext16_eq_toInt] at hdec

/-! ## A jump whose distance and target are tested (R330) -/

theorem State.okpc_iff (s : State) (a : Int) : s.okpc a = true ↔ 0 ≤ a ∧ a ≤ s.pdI := by
  rw [State.okpc, Bool.and_eq_true, decide_eq_true_eq, decide_eq_true_eq]

/-- What a jump to `a` over the distance `k` does: class n of the distance first, then the target (R14, R16). -/
def jump (k a : Int) : Op Unit := fun s => if isN k then newpc a s else .error () (s.abort EILLINS)

theorem jump_of_nonneg {k : Int} (hk : 0 ≤ k) (a : Int) : jump k a = newpc a :=
  funext fun _ => if_pos (decide_eq_true hk)

theorem jump_of_neg {k : Int} (hk : k < 0) (a : Int) (s : State) : jump k a s = .error () (s.abort EILLINS) :=
  if_neg fun hn => absurd (of_decide_eq_true hn) (by omega)

/-- A branch that is taken is such a jump, counted from the PC behind the operands. -/
theorem branchIf_true (k : Int) (s : State) : branchIf true k s = jump k (s.pcI + k) s := branchIf_spec true k s

theorem exec_brf (k : Int) (s : State) : exec (.brf k) s = runOp (jump k (s.pcI + k)) s :=
  runOp_congr (branchIf_true k s)

theorem exec_brb (k : Int) (s : State) : exec (.brb k) s = runOp (jump k (s.pcI - k)) s := by
  refine runOp_congr (m := argn k >>= fun n => get >>= fun s => newpc (s.pcI - n)) ?_
  cases hk : isN k with
  | true => rw [jump, hk]; exact Op.bind_of_ok (argn_accepts hk s)
  | false => rw [jump, hk]; exact Op.bind_of_error (argn_rejects hk s)

section
variable {i : Instr} {s u : State} {k a : Int} (hx : exec i s = runOp (jump k a) u)
include hx

/-- A jump from `s`, or from `s` behind a pop, into the text completes there and writes no byte. -/
theorem completes_jump (hrest : sameRest s u) (hdata : u.data = s.data) (hk : 0 ≤ k) (h0 : 0 ≤ a) (ha : a ≤ u.pdI) :
    completes i s (u.setPc a) 0 0 := by
  have hjump : jump k a u = .ok () (u.setPc a) := by
    rw [jump_of_nonneg hk, newpc_spec, if_pos ((u.okpc_iff a).2 ⟨h0, ha⟩)]
  refine ⟨hx.trans (runOp_of_ok hjump), hrest.trans rfl, fun x _ _ => ?_⟩
  rw [State.setPc_byte, State.byte, State.byte, hdata]

theorem exec_jump_outside (hk : 0 ≤ k) (ha : a < 0 ∨ u.pdI < a) : exec i s = .next (u.abort EPC) := by
  have hout : ¬ u.okpc a = true := fun hok => by
    have := (u.okpc_iff a).1 hok
    omega
  have hjump : jump k a u = .error () (u.abort EPC) := by
    rw [jump_of_nonneg hk, newpc_spec, if_neg hout]
    rfl
  exact hx.trans (runOp_of_error hjump)

theorem exec_jump_negative (hk : k < 0) : exec i s = .next (u.abort EILLINS) :=
  hx.trans (runOp_of_error (jump_of_neg hk a u))

end

/-! ## Unconditional branches (R331, R332) -/

/-- Settles O32: the opcodes one by one, and two jumps that differ in the target. -/
theorem unconditionalBranches : Obligations.UnconditionalBranches := by
  constructor
  · intro b hi lo
    exact ⟨decode_short (op := 172#8) rfl b, decode_escaped_long (op := 14#8) rfl hi lo,
      decode_short (op := 171#8) rfl b, decode_escaped_long (op := 15#8) rfl hi lo⟩
  · intro s k h
    have := State.wf_registers h
    refine ⟨fun hk ha => ?forward, fun hk ha => ?backward, fun hk ha => ?beyond, fun hk ha => ?before,
      fun hk => ⟨?negativeForward, ?negativeBackward⟩⟩
    case forward => exact completes_jump (exec_brf k s) rfl rfl hk (by omega) ha
    case backward => exact completes_jump (exec_brb k s) rfl rfl hk (by omega) (by omega)
    case beyond => exact exec_jump_outside (exec_brf k s) hk (.inr ha)
    case before => exact exec_jump_outside (exec_brb k s) hk (.inl (by omega))
    case negativeForward => exact exec_jump_negative (exec_brf k s) hk
    case negativeBackward => exact exec_jump_negative (exec_brb k s) hk

/-! ## Conditional branches (R333 to R344) -/

/-- A branch on the popped operands `v`: not taken, taken into the text, taken out of it, taken with a distance that is
not of class n. -/
theorem exec_branch_popped {α : Type} {i : Instr} {m : Op α} (p : α → Bool) {s : State} {v : α} {n k : Int}
    (hm : m s = .ok v (s.drop n)) (hx : exec i s = runOp (m >>= fun x => branchIf (p x) k) s) :
    (p v = false → completes i s (s.drop n) 0 0) ∧
    (p v = true → 0 ≤ k → s.pcI + k ≤ s.pdI → completes i s ((s.drop n).setPc (s.pcI + k)) 0 0) ∧
    (p v = true → 0 ≤ k → s.pdI < s.pcI + k → exec i s = .next ((s.drop n).abort EPC)) ∧
    (p v = true → k < 0 → exec i s = .next ((s.drop n).abort EILLINS)) := by
  have hpc : 0 ≤ s.pcI := adr_nonneg s.pc
  have hbranch : exec i s = runOp (branchIf (p v) k) (s.drop n) := hx.trans (runOp_congr (Op.bind_of_ok hm))
  have taken (hp : p v = true) : exec i s = runOp (jump k (s.pcI + k)) (s.drop n) := by
    rw [hbranch, hp]
    exact runOp_congr (branchIf_true k (s.drop n))
  refine ⟨fun hp => ?skipped, fun hp hk ha => ?inside, fun hp hk ha => ?outside, fun hp hk => ?negative⟩
  case skipped =>
    rw [hp] at hbranch
    exact ⟨hbranch.trans (runOp_of_ok rfl), rfl, fun _ _ _ => rfl⟩
  case inside => exact completes_jump (taken hp) rfl rfl hk (by omega) ha
  case outside => exact exec_jump_outside (taken hp) hk (.inr ha)
  case negative => exact exec_jump_negative (taken hp) hk

/-- Settles O33: a pop of two words or of one, and twelve conditions on what is popped. -/
theorem conditionalBranches : Obligations.ConditionalBranches := by
  intro s k i n c h hi hn
  obtain ⟨rfl, hi⟩ | ⟨rfl, hi⟩ := hi
  · have onPair {i : Instr} (p : Int × Int → Bool) := exec_branch_popped (i := i) (k := k) p (popWordPair_spec h hn)
    obtain ⟨rfl, rfl⟩ | ⟨rfl, rfl⟩ | ⟨rfl, rfl⟩ | ⟨rfl, rfl⟩ | ⟨rfl, rfl⟩ | ⟨rfl, rfl⟩ := hi
    · exact onPair (fun x => decide (x.1 < x.2)) rfl
    · exact onPair (fun x => decide (x.1 ≤ x.2)) rfl
    · exact onPair (fun x => decide (x.1 = x.2)) rfl
    · exact onPair (fun x => decide (x.1 ≠ x.2)) rfl
    · exact onPair (fun x => decide (x.1 ≥ x.2)) rfl
    · exact onPair (fun x => decide (x.1 > x.2)) rfl
  · have onWord {i : Instr} (p : Int → Bool) := exec_branch_popped (i := i) (k := k) p (popw_spec h hn)
    obtain ⟨rfl, rfl⟩ | ⟨rfl, rfl⟩ | ⟨rfl, rfl⟩ | ⟨rfl, rfl⟩ | ⟨rfl, rfl⟩ | ⟨rfl, rfl⟩ := hi
    · exact onWord (fun w => decide (w < 0)) rfl
    · exact onWord (fun w => decide (w ≤ 0)) rfl
    · exact onWord (fun w => decide (w = 0)) rfl
    · exact onWord (fun w => decide (w ≠ 0)) rfl
    · exact onWord (fun w => decide (w ≥ 0)) rfl
    · exact onWord (fun w => decide (w > 0)) rfl

end Sys2Proof.Machine
end

section
/-! Procedure calls (R350 to R358): mark blocks pushed, procedures entered, words moved inside the data space, procedures
left; the statements about MRK, MRS, MRX and MXS, about CAL and CAS, about RET and RES, and about a call followed by a
return. -/

namespace Sys2Proof.Machine

/-! ## Stacked forms that write more than `completes` allows (R200) -/

/-- A stacked form whose statements go on behind the pop of its operand. -/
theorem runOp_popw {s t : State} (h : s.Sound) (h2 : s.has 2 = true) {f : Int → Op Unit}
    (hf : f (s.top 0) (s.drop 2) = .ok () t) : runOp (popw >>= f) s = .next t :=
  runOp_of_ok ((Op.bind_of_ok (popw_spec h.wf h2)).trans hf)

/-- A stacked form whose statements stop behind the pop of its operand. -/
theorem runOp_popw_stops {s t : State} (h : s.Sound) (h2 : s.has 2 = true) {f : Int → Op Unit}
    (hf : f (s.top 0) (s.drop 2) = .error () t) : runOp (popw >>= f) s = .next t :=
  runOp_of_error ((Op.bind_of_ok (popw_spec h.wf h2)).trans hf)

/-! ## Mark blocks (R351 to R354) -/

theorem mrkPre_iff (k : Int) (s : State) :
    mrkPre k s = true ↔ isN k = true ∧ s.oklinks k.toNat s.lbI = true ∧ s.room 6 = true := by
  simp only [mrkPre, Bool.and_eq_true, and_assoc]

theorem mark_eq {s : State} (h : s.Sound) (b : Bool) {k : Int} (hp : mrkPre k s = true) :
    mark b k s = .ok () (mrkPost b k s) := by
  obtain ⟨hk, hl, hr⟩ := (mrkPre_iff k s).1 hp
  have hblock : Pushes (push (s.linkAt k.toNat s.lbI) >>= fun _ => push s.lbI >>= fun _ => push 0) _ :=
    (pushes_push _).seq ((pushes_push s.lbI).seq (pushes_push 0))
  calc mark b k s
      = _ := Op.bind_of_ok (argn_accepts hk s)
    _ = _ := Op.get_bind _ s
    _ = _ := Op.bind_of_ok (followLinks_eq _ hl)
    _ = ((push (s.linkAt k.toNat s.lbI) >>= fun _ => push s.lbI >>= fun _ => push 0) >>= fun _ => setNormalmap b) s := by
      simp only [bind_assoc]
    _ = _ := Op.bind_of_ok (hblock s h hr)
    _ = _ := rfl

theorem storesOnly_mrkPost {s : State} (h : s.Sound) (b : Bool) {k : Int} (hp : mrkPre k s = true) :
    storesOnly s (mrkPost b k s) (s.spI + 2) 6 := by
  obtain ⟨_, _, hr⟩ := (mrkPre_iff k s).1 hp
  exact h.storesOnly_pushedAll [s.linkAt k.toNat s.lbI, s.lbI, 0] hr

/-- Settles O34: one sequence of pushes for the four instructions, behind the pop of the level count or not. -/
theorem markInstructions : Obligations.MarkInstructions := by
  intro s k h
  have hs := (State.wf_iff_sound s).1 h
  refine ⟨fun hp => ⟨runOp_of_ok (mark_eq hs true hp), runOp_of_ok (mark_eq hs false hp),
    storesOnly_mrkPost hs true hp, storesOnly_mrkPost hs false hp⟩, fun h2 hp => ?_⟩
  have hs2 := hs.drop_two h2
  have hstores (b : Bool) : storesOnly s (mrkPost b (s.top 0) (s.drop 2)) s.spI 6 := by
    have hdropped := storesOnly_mrkPost hs2 b hp
    rwa [State.drop_spI h (by decide) h2, Int.sub_add_cancel] at hdropped
  exact ⟨runOp_popw hs h2 (mark_eq hs2 true hp), runOp_popw hs h2 (mark_eq hs2 false hp), hstores true, hstores false⟩

/-! ## Procedures entered (R73, R355, R356) -/

theorem State.okproc_iff (s : State) (n : Int) : s.okproc n = true ↔
    0 ≤ n ∧ n < s.nproc ∧ s.pdI % 2 = 0 ∧ s.procBaseOf n ≤ s.pdI := by
  simp only [State.okproc, Bool.and_eq_true, decide_eq_true_eq, and_assoc]

theorem calPre_iff (k : Int) (s : State) :
    calPre k s = true ↔ s.okproc k = true ∧ s.okword (s.spI - s.procArgs k) = true := Bool.and_eq_true_iff

section
variable {s : State} {k : Int}

theorem requireProc_of_listed (h0 : 0 ≤ k) (hk : k < s.nproc) : requireProc k s = .ok () s := by
  rw [requireProc_spec, if_pos ⟨h0, hk⟩]

theorem requireProc_of_not_listed (hk : k < 0 ∨ s.nproc ≤ k) : requireProc k s = .error () (s.abort EPROC) := by
  rw [requireProc_spec, if_neg (by omega)]
  rfl

/-- A word of the descriptor of a procedure may be read where the table lies at an even address (R65). -/
theorem State.Sound.okcode_descriptor (h : s.Sound) (h0 : 0 ≤ k) (hk : k < s.nproc) (heven : s.pdI % 2 = 0) {j : Int}
    (hj : j = 0 ∨ j = 2) : s.okcode (s.pdI + 4 * k + j) = true := by
  have hfits := h.table_fits
  have hpd : 0 ≤ s.pdI := adr_nonneg s.pd
  simp only [State.okcode, Bool.and_eq_true, decide_eq_true_eq]
  omega

theorem State.Sound.procBase_eq (h : s.Sound) (hp : s.okproc k = true) : procBase k s = .ok (s.procBaseOf k) s := by
  obtain ⟨h0, hk, heven, _⟩ := (s.okproc_iff k).1 hp
  calc procBase k s
      = _ := Op.get_bind _ s
    _ = _ := (memi_spec _ s).trans (if_pos (h.okcode_descriptor h0 hk heven (.inr rfl)))

theorem State.Sound.memi_args (h : s.Sound) (hp : s.okproc k = true) :
    memi (s.pdI + (Config.pdsiz : Int) * k + (Config.pdargs : Int)) s = .ok (s.procArgs k) s := by
  obtain ⟨h0, hk, heven, _⟩ := (s.okproc_iff k).1 hp
  have hok := h.okcode_descriptor h0 hk heven (.inl rfl)
  calc memi (s.pdI + 4 * k + 0) s
      = _ := (memi_spec _ s).trans (if_pos hok)
    _ = _ := by rw [State.procArgs, Int.add_zero]

theorem State.okpc_procBaseOf (hp : s.okproc k = true) : s.okpc (s.procBaseOf k) = true :=
  (s.okpc_iff _).2 ⟨adr_nonneg _, ((s.okproc_iff k).1 hp).2.2.2⟩

theorem call_eq (h : s.Sound) (hp : calPre k s = true) : call k s = .ok () (calPost k s) := by
  obtain ⟨hproc, hslot⟩ := (calPre_iff k s).1 hp
  obtain ⟨h0, hk, _⟩ := (s.okproc_iff k).1 hproc
  have hsaved : store (s.spI + 2 - s.procArgs k - Config.reta) s.pcI s
      = .ok () (s.putWord (s.spI - s.procArgs k) s.pcI) := by
    rw [Config.reta, show s.spI + 2 - s.procArgs k - 2 = s.spI - s.procArgs k by omega]
    exact store_of_okword hslot _
  have hlb : s.oklb (s.spI + 2 - s.procArgs k) = true := by
    have hargs : 0 ≤ s.procArgs k := adr_nonneg _
    rw [State.okword_iff] at hslot
    simp only [State.oklb, Bool.and_eq_true, decide_eq_true_eq]
    omega
  calc call k s
      = _ := Op.bind_of_ok (requireProc_of_listed h0 hk)
    _ = _ := Op.get_bind _ s
    _ = _ := Op.bind_of_ok (h.memi_args hproc)
    _ = _ := Op.bind_of_ok hsaved
    _ = _ := Op.bind_of_ok ((h.putWord hslot _).procBase_eq hproc)
    _ = _ := Op.bind_of_ok ((newpc_spec _ _).trans (if_pos (State.okpc_procBaseOf hproc)))
    _ = _ := Op.bind_of_ok ((newlb_spec _ _).trans (if_pos hlb))
    _ = _ := rfl

theorem storesOnly_calPost (h : s.Sound) (hp : calPre k s = true) :
    storesOnly s (calPost k s) (s.spI - s.procArgs k) 2 :=
  storesOnly_putWord h.wf (State.nonneg_of_okword ((calPre_iff k s).1 hp).2) _

theorem call_of_not_listed (hk : k < 0 ∨ s.nproc ≤ k) : call k s = .error () (s.abort EPROC) :=
  Op.bind_of_error (requireProc_of_not_listed hk)

/-- The descriptors of a table at an odd address cannot be read (R65). -/
theorem call_of_odd_table (h0 : 0 ≤ k) (hk : k < s.nproc) (hodd : s.pdI % 2 = 1) :
    call k s = .error () (s.abort EPTR) := by
  have hno : ¬ s.okcode (s.pdI + 4 * k + 0) = true := by
    simp only [State.okcode, Bool.and_eq_true, decide_eq_true_eq]
    omega
  calc call k s
      = _ := Op.bind_of_ok (requireProc_of_listed h0 hk)
    _ = _ := Op.get_bind _ s
    _ = _ := Op.bind_of_error ((memi_spec _ s).trans (if_neg hno))

end

/-- Settles O35: CAS is CAL behind the pop of the number. -/
theorem callInstructions : Obligations.CallInstructions := by
  intro s k h
  have hs := (State.wf_iff_sound s).1 h
  refine ⟨fun hp => ⟨runOp_of_ok (call_eq hs hp), storesOnly_calPost hs hp⟩, fun h2 hp => ?_,
    fun h0 hk hodd => runOp_of_error (call_of_odd_table h0 hk hodd), fun hk => runOp_of_error (call_of_not_listed hk),
    fun h2 hk => runOp_popw_stops hs h2 (call_of_not_listed hk),
    fun h2 h0 hk hodd => runOp_popw_stops hs h2 (call_of_odd_table h0 hk hodd)⟩
  have hstores := storesOnly_calPost (hs.drop_two h2) hp
  rw [State.drop_spI h (by decide) h2] at hstores
  exact ⟨runOp_popw hs h2 (call_eq (hs.drop_two h2) hp), hstores⟩

/-! ## Words moved inside the data space (R357, R368) -/

/-- Words are read from the data space alone. -/
theorem State.wordsAt_congr {s t : State} (hdata : t.data = s.data) (n : Nat) (a : Int) :
    t.wordsAt a n = s.wordsAt a n := by
  induction n generalizing a with
  | zero => rfl
  | succ n ih => rw [State.wordsAt, State.wordsAt, ih, State.word, State.word, hdata]

/-- Words moved low to high keep their values where no word is stored to before it is read: the target starts below the
source, or behind its end. -/
theorem State.Sound.moveWords_eq (n : Nat) : ∀ {s : State} {dst src : Int}, s.Sound → s.okblock dst (2 * n) = true →
    s.okblock src (2 * n) = true → (dst ≤ src ∨ src + 2 * n ≤ dst) →
    moveWords n dst src s = .ok () (s.putWords dst (s.wordsAt src n)) := by
  induction n with
  | zero => exact fun _ _ _ _ => rfl
  | succ n ih =>
    intro s dst src h hdst hsrc hapart
    obtain ⟨hto, htos⟩ := h.okblock_lowest hdst
    obtain ⟨hfrom, hfroms⟩ := h.okblock_lowest hsrc
    have h0 := State.nonneg_of_okword hfrom
    have hto0 := State.nonneg_of_okword hto
    have hsame (v : Int) : (s.putWord dst v).wordsAt (src + 2) n = s.wordsAt (src + 2) n := by
      have heven := ((s.okblock_iff _ _).1 hdst).1
      have heven' := ((s.okblock_iff _ _).1 hsrc).1
      exact (storesOnly_putWord h.wf hto0 v).wordsAt_eq n (by omega) (by omega)
    calc moveWords (n + 1) dst src s
        = _ := Op.bind_of_ok (memw_of_okword hfrom)
      _ = _ := Op.bind_of_ok (store_of_okword hto _)
      _ = _ := ih (h.putWord hto _) htos hfroms (by omega)
      _ = _ := by rw [hsame]; rfl

/-! ## Procedures left (R357, R358) -/

/-- The sizes of class x (R118) are whole words. -/
theorem isX_cases {k : Int} (hk : isX k = true) : ∃ n : Nat, k = 2 * n := by
  simp only [isX, Bool.and_eq_true, decide_eq_true_eq] at hk
  exact ⟨(k / 2).toNat, by omega⟩

theorem State.okreturn_iff (s : State) : s.okreturn = true ↔
    s.okword (s.lbI - 2) = true ∧ s.okword (s.lbI - 4) = true ∧ adr (s.word (s.lbI - 2)) ≤ s.pdI ∧
      adr (s.word (s.lbI - 4)) % 2 = 0 ∧ adr (s.word (s.lbI - 4)) ≤ s.lbI - 6 ∧ 6 ≤ s.lbI := by
  simp only [State.okreturn, Bool.and_eq_true, decide_eq_true_eq, and_assoc]

theorem retPre_iff (k : Int) (s : State) :
    retPre k s = true ↔ isX k = true ∧ s.has k = true ∧ s.okreturn = true := by
  simp only [retPre, Bool.and_eq_true, and_assoc]

/-- The caller's PC and LB taken from the mark block: what RET, RES and RTT begin with. -/
def State.unmarked (s : State) : State := (s.setPc (adr (s.word (s.lbI - 2)))).setLb (adr (s.word (s.lbI - 4)))

section
variable {s : State} (h : s.Sound) (hret : s.okreturn = true)
include h hret

theorem State.Sound.oklb_link : s.oklb (adr (s.word (s.lbI - 4))) = true := by
  obtain ⟨_, _, _, heven, hlink, _⟩ := s.okreturn_iff.1 hret
  have := h.lb_le
  simp only [State.oklb, Bool.and_eq_true, decide_eq_true_eq]
  omega

omit h in
theorem State.okpc_return : s.okpc (adr (s.word (s.lbI - 2))) = true :=
  (s.okpc_iff _).2 ⟨adr_nonneg _, (s.okreturn_iff.1 hret).2.2.1⟩

theorem State.Sound.unmarked : s.unmarked.Sound :=
  (h.setPc (State.okpc_return hret)).setLb (adr_nonneg _) (h.oklb_link hret)

omit h hret in
/-- The LB of the caller. -/
theorem State.unmarked_lbI (s : State) : s.unmarked.lbI = adr (s.word (s.lbI - 4)) :=
  State.lbI_setLb _ (adr_nonneg _) (adr_lt _)

/-- The mark block is read, and PC and LB are set from it. -/
theorem State.Sound.unmark_bind {β : Type} (f : Op β) :
    (mema (s.lbI - Config.reta) >>= fun ret => newpc ret >>= fun _ => mema (s.lbI - Config.dynd) >>= fun link =>
      newlb link >>= fun _ => f) s = f s.unmarked := by
  obtain ⟨hpc, hlb, _⟩ := s.okreturn_iff.1 hret
  calc _ = _ := Op.bind_of_ok (mema_of_okword hpc)
    _ = _ := Op.bind_of_ok ((newpc_spec _ s).trans (if_pos (State.okpc_return hret)))
    _ = _ := Op.bind_of_ok (mema_of_okword (s := s.setPc _) hlb)
    _ = _ := Op.bind_of_ok ((newlb_spec _ (s.setPc _)).trans (if_pos (h.oklb_link hret)))

end

/-- What a store leaves of the registers: `sameRest`, read for LB and for HP. -/
theorem sameRest.lbI_eq {s t : State} (h : sameRest s t) : t.lbI = s.lbI := by
  rw [h]
  rfl

theorem sameRest.hpI_eq {s t : State} (h : sameRest s t) : t.hpI = s.hpI := by
  rw [h]
  rfl

theorem retPost_words (n : Nat) (s : State) : retPost (2 * n) s =
    (s.unmarked.putWords (s.lbI - 6) (s.wordsAt (s.spI - 2 * n + 2) n)).setSp (s.lbI - 8 + 2 * n) := by
  rw [retPost, toNat_two_mul_half]
  rfl

/-- The words of the mark block and the frame above it take the result (R357). -/
theorem State.Sound.okblock_result {s : State} (h : s.Sound) (hret : s.okreturn = true) {n : Nat}
    (hn : s.has (2 * n) = true) : s.okblock (s.lbI - 6) (2 * n) = true := by
  obtain ⟨_, _, _, _, _, hlow⟩ := s.okreturn_iff.1 hret
  have := h.lb_even
  have := h.sp_lt
  have := h.hp_le
  rw [State.has_iff] at hn
  rw [State.okblock_iff]
  omega

theorem leave_eq {s : State} (h : s.Sound) {k : Int} (hp : retPre k s = true) : leave k s = .ok () (retPost k s) := by
  obtain ⟨hk, hn, hret⟩ := (retPre_iff k s).1 hp
  obtain ⟨n, rfl⟩ := isX_cases hk
  have hmoved := (h.unmarked hret).moveWords_eq n (dst := s.lbI - 6) (src := s.spI - 2 * n + 2)
    (h.okblock_result hret hn) (h.okblock_top hn) (.inl (by rw [State.has_iff] at hn; omega))
  rw [State.wordsAt_congr (s := s) (t := s.unmarked) rfl] at hmoved
  have hsp : (s.unmarked.putWords (s.lbI - 6) (s.wordsAt (s.spI - 2 * n + 2) n)).oksp (s.lbI - 8 + 2 * n) = true := by
    obtain ⟨_, _, _, _, hlink, _⟩ := s.okreturn_iff.1 hret
    have := h.lb_even
    have := h.sp_lt
    have hrest := sameRest_putWords (s.wordsAt (s.spI - 2 * n + 2) n) s.unmarked (s.lbI - 6)
    have hhp : s.unmarked.hpI = s.hpI := rfl
    rw [State.has_iff] at hn
    simp only [State.oksp, Bool.and_eq_true, decide_eq_true_eq, hrest.lbI_eq, hrest.hpI_eq, s.unmarked_lbI, hhp]
    omega
  calc leave (2 * n) s
      = _ := Op.bind_of_ok (argx_accepts hk s)
    _ = _ := Op.get_bind _ s
    _ = _ := h.unmark_bind hret _
    _ = _ := by
      rw [toNat_two_mul_half, retPost_words]
      refine (Op.bind_of_ok hmoved).trans ?_
      rw [show s.lbI - Config.mrksize - 2 + 2 * (n : Int) = s.lbI - 8 + 2 * n by rw [Config.mrksize]; omega]
      exact (newsp_spec _ _).trans (if_pos hsp)

theorem storesOnly_retPost {s : State} (h : s.Sound) {k : Int} (hp : retPre k s = true) :
    storesOnly s (retPost k s) (s.lbI - 6) k := by
  obtain ⟨hk, hn, hret⟩ := (retPre_iff k s).1 hp
  obtain ⟨n, rfl⟩ := isX_cases hk
  have hblock : s.unmarked.okblock (s.lbI - 6) (2 * n) = true := h.okblock_result hret hn
  have hstores := (h.unmarked hret).storesOnly_putWords (a := s.lbI - 6) (s.wordsAt (s.spI - 2 * n + 2) n)
  rw [State.length_wordsAt] at hstores
  rw [retPost_words]
  exact hstores hblock

/-- Settles O36: RES is RET behind the pop of the size. -/
theorem returnInstructions : Obligations.ReturnInstructions := by
  intro s k h
  have hs := (State.wf_iff_sound s).1 h
  exact ⟨fun hp => ⟨runOp_of_ok (leave_eq hs hp), storesOnly_retPost hs hp⟩,
    fun h2 hp => ⟨runOp_popw hs h2 (leave_eq (hs.drop_two h2) hp), storesOnly_retPost (hs.drop_two h2) hp⟩⟩

/-! ## A call and its return (R351, R355, R357) -/

/-- SP is the word its number is the address of. -/
theorem State.u16_spI (s : State) : u16 s.spI = s.sp := congrArg State.sp s.setSp_spI

/-- The descriptors are read from the instruction space at PD. -/
theorem sameProgram.procArgs_eq {s t : State} (h : sameProgram s t) (n : Int) : t.procArgs n = s.procArgs n := by
  obtain ⟨hcode, hpd, _⟩ := h
  rw [State.procArgs, State.procArgs, State.codeWord, State.codeWord, State.pdI, State.pdI, hcode, hpd]

theorem sameProgram.procBaseOf_eq {s t : State} (h : sameProgram s t) (n : Int) :
    t.procBaseOf n = s.procBaseOf n := by
  obtain ⟨hcode, hpd, _⟩ := h
  rw [State.procBaseOf, State.procBaseOf, State.codeWord, State.codeWord, State.pdI, State.pdI, hcode, hpd]

theorem sameProgram.okproc_eq {s t : State} (h : sameProgram s t) (n : Int) : t.okproc n = s.okproc n := by
  have hbase := h.procBaseOf_eq n
  obtain ⟨_, hpd, hheader, _⟩ := h
  rw [State.okproc, State.okproc, hbase, State.nproc, State.nproc, State.pdI, State.pdI, hpd, hheader]

theorem sameRest.sameProgram {s t : State} (h : sameRest s t) : sameProgram s t := by
  rw [h]
  exact ⟨rfl, rfl, rfl, rfl⟩

theorem sameProgram_mrkPost (b : Bool) (k : Int) (s : State) : sameProgram s (mrkPost b k s) := by
  have hpushed := (sameRest_pushedAll [s.linkAt k.toNat s.lbI, s.lbI, 0] s).sameProgram
  simpa [mrkPost, sameProgram] using hpushed

theorem sameProgram_calPost (k : Int) (s : State) : sameProgram s (calPost k s) := by
  simp [calPost, sameProgram]

/-- Pushes change SP and the data space. -/
theorem State.pushedAll_eq (vs : List Int) : ∀ s : State,
    s.pushedAll vs = { s with sp := (s.pushedAll vs).sp, data := (s.pushedAll vs).data } := by
  induction vs with
  | nil => exact fun _ => rfl
  | cons v vs ih => exact fun s => ih (s.pushed v)

theorem mrkPost_pcI (b : Bool) (k : Int) (s : State) : (mrkPost b k s).pcI = s.pcI := by
  rw [mrkPost, State.setNormal_pcI, State.pushedAll_eq]
  rfl

section
variable {s : State} (h : s.Sound) (hr : s.room 6 = true)
include h hr

/-- Behind MRK 0 the dynamic link is the LB of the caller. -/
theorem State.Sound.marked : (mrkPost true 0 s).Sound ∧ (mrkPost true 0 s).spI = s.spI + 6 ∧
    (mrkPost true 0 s).word (s.spI + 4) = s.lb := by
  have hroom : s.room (2 * ([s.lbI, s.lbI, 0].length : Int) + 0) = true := hr
  obtain ⟨hs, hsp, _⟩ := h.pushedAll [s.lbI, s.lbI, 0] le_rfl hroom
  have hword := h.word_pushedAll [s.lbI, s.lbI, 0] 1 hr (Nat.lt_of_sub_pos Nat.two_pos)
  rw [show s.spI + 2 + 2 * ((1 : Nat) : Int) = s.spI + 4 by omega] at hword
  exact ⟨{ hs with }, hsp, hword.trans (u16_adr s.lb)⟩

variable {n : Int} (hp : s.okproc n = true) (hargs : s.procArgs n = 0)
include hp hargs

theorem State.Sound.calPre_marked : calPre n (mrkPost true 0 s) = true := by
  obtain ⟨hm, hsp, _⟩ := h.marked hr
  have hprogram := sameProgram_mrkPost true 0 s
  have htop := State.okword_top hm.wf (by have := s.spI_ge; omega)
  rw [calPre_iff, hprogram.okproc_eq, hprogram.procArgs_eq, hargs, Int.sub_zero]
  exact ⟨hp, htop⟩

omit hp in
/-- The frame of a procedure without parameters lies behind the mark block of the call. -/
theorem State.Sound.calPost_marked : calPost n (mrkPost true 0 s) =
    ((((mrkPost true 0 s).putWord (s.spI + 6) s.pcI).setPc (s.procBaseOf n)).setLb (s.spI + 8)).setNormal true := by
  obtain ⟨_, hsp, _⟩ := h.marked hr
  have hprogram := sameProgram_mrkPost true 0 s
  rw [calPost, hprogram.procArgs_eq, hprogram.procBaseOf_eq, mrkPost_pcI, hargs, hsp, Int.sub_zero, Int.sub_zero,
    Int.add_assoc, show (6 : Int) + 2 = 8 from rfl]

/-- The registers and the mark block where the procedure begins. -/
theorem State.Sound.called : (calPost n (mrkPost true 0 s)).Sound ∧
    (calPost n (mrkPost true 0 s)).spI = s.spI + 6 ∧ (calPost n (mrkPost true 0 s)).lbI = s.spI + 8 ∧
    (calPost n (mrkPost true 0 s)).word (s.spI + 6) = s.pc ∧
    (calPost n (mrkPost true 0 s)).word (s.spI + 4) = s.lb := by
  obtain ⟨hm, hsp, hlink⟩ := h.marked hr
  have hcall := call_eq hm (h.calPre_marked hr hp hargs)
  refine ⟨sound_of_ok (call_within (K := anyUpdate) trivial n) hm hcall, ?_⟩
  have hge := s.spI_ge
  have hroom := (s.room_iff 6).1 hr
  have hmax := h.maxdata_bounds
  have hhp := h.hp_le
  have hother := (storesOnly_putWord hm.wf (show 0 ≤ s.spI + 6 by omega) s.pcI).word_eq (x := s.spI + 4) (by omega)
    (by omega)
  have hsaved := State.word_putWord_same hm.wf (show 0 ≤ s.spI + 6 by omega) s.pcI
  rw [h.calPost_marked hr hargs]
  exact ⟨hsp, State.lbI_setLb _ (by omega) (by omega), hsaved.trans (u16_adr s.pc), hother.trans hlink⟩

end

theorem retPost_zero (s : State) : retPost 0 s = s.unmarked.setSp (s.lbI - 8) := by
  have h := retPost_words 0 s
  rwa [Nat.cast_zero, Int.mul_zero, Int.add_zero] at h

/-- Settles O37: the mark block holds the caller's registers, and the return takes them from there. -/
theorem callAndReturnRestore : Obligations.CallAndReturnRestore := by
  rintro s t n h hr hp hargs rfl
  have hs := (State.wf_iff_sound s).1 h
  obtain ⟨hm, hmsp, _⟩ := hs.marked hr
  have hpre := hs.calPre_marked hr hp hargs
  obtain ⟨ht, hsp, hlb, hpc, hlink⟩ := hs.called hr hp hargs
  have hmarked := storesOnly_mrkPost hs true ((mrkPre_iff 0 s).2 ⟨rfl, rfl, hr⟩)
  have hcalled := storesOnly_calPost hm hpre
  rw [hmsp, (sameProgram_mrkPost true 0 s).procArgs_eq, hargs, Int.sub_zero] at hcalled
  have hpd : (calPost n (mrkPost true 0 s)).pdI = s.pdI := by
    obtain ⟨_, hpd, _⟩ := (sameProgram_mrkPost true 0 s).trans (sameProgram_calPost n _)
    rw [State.pdI, State.pdI, hpd]
  have hnormal : (calPost n (mrkPost true 0 s)).normalmap = true := rfl
  refine ⟨runOp_of_ok (call_eq hm hpre), ?_⟩
  generalize calPost n (mrkPost true 0 s) = u at *
  have hge := s.spI_ge
  have hretaddr : u.lbI - 2 = s.spI + 6 := by omega
  have hdyn : u.lbI - 4 = s.spI + 4 := by omega
  have hret : retPre 0 u = true := by
    have hlow := hs.lb_le
    have heven := hs.lb_even
    have hinText := hs.pc_le
    have := ht.sp_even
    have := ht.sp_lt
    have := ht.hp_le
    rw [State.lbI] at hlow heven
    rw [State.pcI] at hinText
    rw [retPre_iff, State.has_iff, State.okreturn_iff, State.okword_iff, State.okword_iff, hretaddr, hdyn, hpc, hlink,
      hpd]
    exact ⟨rfl, by omega⟩
  have hleft := storesOnly_retPost ht hret
  refine ⟨runOp_of_ok (leave_eq ht hret), ?_⟩
  rw [retPost_zero, State.unmarked, hretaddr, hdyn, hpc, hlink, show u.lbI - 8 = s.spI by omega] at *
  exact ⟨u16_adr s.pc, u16_adr s.lb, s.u16_spI, hnormal, hmarked.trans
    ((hcalled.widen (by omega) (by omega)).trans (hleft.widen (by omega) (by omega)))⟩

end Sys2Proof.Machine
end

section
/-! Traps and signals (R383, R386, R406, R411 to R418, R421): numbers raised, trap entry, return from a trap, a signal
between two instructions; the statements about `trap` and `deliver`, about TRP, about trap entry, about RTT, about both
together, and about signals. -/

namespace Sys2Proof.Machine

/-! ## Numbers raised (R411 to R413) -/

theorem isFatal_iff (n : Byte) : isFatal n = true ↔ n.toNat ∈ [0, 1, 2, 3, 4, 23, 25, 26, 27, 28] := List.elem_iff

theorem State.defaultHandling_iff (s : State) :
    s.defaultHandling = true ↔ s.uerrorlb = 0#16 ∨ s.uerrorproc = 65534#16 := by
  rw [State.defaultHandling, Bool.or_eq_true, beq_iff_eq, beq_iff_eq]
  rfl

theorem State.tolerates_of_handled {s : State} (hd : s.defaultHandling = false) (ns : List Byte) :
    s.tolerates ns = true := by
  rw [State.tolerates, hd, Bool.not_false, Bool.or_true]

theorem trap_stops {n : Byte} {s : State} (h : isFatal n = true ∨ s.defaultHandling = true) :
    trap n s = .error () (s.abort n) :=
  h.elim (fun hf => trap_of_fatal hf s) fun hd => trap_of_defaultHandling hd n

theorem trap_queues {n : Byte} {s : State} (hf : isFatal n = false) (hd : s.defaultHandling = false) :
    trap n s = .ok () (s.raiseAll [n]) := trap_of_tolerated hf (State.tolerates_of_handled hd [n])

theorem deliver_of_nil {s : State} (hrun : s.status = .running) (hp : s.pending = []) : deliver s = .ok () s := by
  rw [deliver_spec, if_pos hrun, hp]

theorem deliver_of_cons {s : State} {n : Byte} {rest : List Byte} (hrun : s.status = .running)
    (hp : s.pending = n :: rest) :
    deliver s = if s.defaultHandling then .error () (s.abort n) else enter n rest s := by
  rw [deliver_spec, if_pos hrun, hp]
  rfl

/-- Settles O48: the two reasons to stop are the fatal numbers and default handling. -/
theorem trapStopsOrQueues : Obligations.TrapStopsOrQueues := by
  refine ⟨fun s n _ => ⟨fun hstop => ?stops, fun hf hlb hproc => ?queues⟩,
    fun s hrun => ⟨fun hp => runOp_of_ok (deliver_of_nil hrun hp), fun n rest hp hd => ?delivered⟩⟩
  case stops =>
    rw [← isFatal_iff, ← State.defaultHandling_iff] at hstop
    exact runOp_of_error (trap_stops hstop)
  case queues =>
    rw [← isFatal_iff, Bool.not_eq_true] at hf
    have hd : s.defaultHandling = false := by
      rw [← Bool.not_eq_true, State.defaultHandling_iff]
      exact not_or.2 ⟨hlb, hproc⟩
    exact runOp_of_ok (trap_queues hf hd)
  case delivered => exact runOp_of_error ((deliver_of_cons hrun hp).trans (if_pos hd))

/-! ## TRP (R386, decision D16) -/

/-- What TRP does with the popped number. -/
def raiseNumber (n : Int) : Op Unit := if 0 ≤ n ∧ n ≤ 255 then trap (BitVec.ofInt 8 n) else stop .undefined

theorem exec_trp (s : State) : exec .trp s = runOp (popw >>= raiseNumber) s := rfl

theorem raiseNumber_inside {n : Int} (h0 : 0 ≤ n) (h255 : n ≤ 255) : raiseNumber n = trap (BitVec.ofInt 8 n) :=
  if_pos ⟨h0, h255⟩

/-- Settles O49: a number inside is raised as any error, one outside is not. -/
theorem trapInstruction : Obligations.TrapInstruction := by
  rintro s n h h2 rfl
  have hs := (State.wf_iff_sound s).1 h
  refine ⟨fun h0 h255 hf hd => completes_popped (exec_trp s) ((Op.bind_of_ok (popw_spec h h2)).trans ?queued),
    fun h0 h255 hstop => (exec_trp s).trans (runOp_popw_stops hs h2 ?stopped),
    fun hout => (exec_trp s).trans (runOp_popw_stops hs h2 ?undefined)⟩
  case queued =>
    rw [raiseNumber_inside h0 h255]
    exact trap_queues hf hd
  case stopped =>
    rw [raiseNumber_inside h0 h255]
    exact trap_stops hstop
  case undefined =>
    rw [raiseNumber, if_neg (by omega)]
    rfl

/-! ## Signals (R406, R421) -/

/-- A signal is taken at an instruction boundary. -/
theorem step_of_signal {s : State} {g : Word} {rest : List (Option Word)} (hrun : s.status = .running)
    (hp : s.pending = []) (hg : s.signals = some g :: rest) :
    step s = runOp (takeSignal g) { s with signals := rest } := by
  rw [step, if_pos hrun, hp, hg]

theorem takeSignal_of_trap {s : State} {g : Word} {n : Byte} (hg : sigLookup s.sigmap g = some (.trap n)) :
    takeSignal g s = (trap n >>= fun _ => deliver) s := by
  rw [takeSignal, hg]

theorem takeSignal_of_ignore {s : State} {g : Word} (hg : sigLookup s.sigmap g = some .ignore) :
    takeSignal g s = .ok () s := by
  rw [takeSignal, hg]

/-- A number raised and delivered at once is a number raised at the end of a step: a stopped machine delivers nothing. -/
theorem runOp_trap_deliver (n : Byte) (s : State) :
    runOp (trap n >>= fun _ => deliver) s = afterExec (runOp (trap n) s) := by
  by_cases hstop : isFatal n = true ∨ s.defaultHandling = true
  · have htrap := trap_stops hstop
    rw [runOp_of_error (Op.bind_of_error htrap), runOp_of_error htrap, afterExec_abort]
  · rw [not_or, Bool.not_eq_true, Bool.not_eq_true] at hstop
    have htrap := trap_queues hstop.1 hstop.2
    rw [runOp_congr (Op.bind_of_ok htrap), runOp_of_ok htrap]
    rfl

/-- Settles O53: the effect of a TRP there is a step that runs `trap` alone and then delivers. -/
theorem signalTakenBetweenInstructions : Obligations.SignalTakenBetweenInstructions := by
  intro s g rest hinv hrun hg
  obtain ⟨_, hp⟩ := s.inv_iff.1 hinv
  rw [step_of_signal hrun hp hg]
  refine ⟨fun n hn => ?trap, fun hn => ?ignore⟩
  case trap => rw [runOp_congr (takeSignal_of_trap (s := { s with signals := rest }) hn), runOp_trap_deliver]
  case ignore => exact runOp_of_ok (takeSignal_of_ignore (s := { s with signals := rest }) hn)

/-! ## Trap entry (R415 to R417) -/

/-- The words a trap entry pushes, the first one first. -/
def trapFrame (n : Byte) (s : State) : List Int := [ofBool s.normalmap, adr s.uerrorlb, s.lbI, s.pcI, n.toNat]

/-- The data space and the registers where the error procedure begins. -/
def State.trapped (s : State) (n : Byte) (rest : List Byte) : State :=
  ((((s.beginTrap rest).pushedAll (trapFrame n s)).setLb (s.spI + 10)).setPc
    (s.procBaseOf (adr s.uerrorproc))).setNormal true

/-- The pushes of a trap entry. -/
def pushTrapFrame (n : Byte) (s : State) : Op Unit := do
  push (ofBool s.normalmap)
  push (adr s.uerrorlb)
  push s.lbI
  push s.pcI
  push n.toNat

/-- What a trap entry does behind its pushes. -/
def enterErrorProc (s : State) : Op Unit := do
  newlb (s.spI + 10)
  require (decide (adr s.uerrorproc < s.nproc)) EPROC
  let base ← procBase (adr s.uerrorproc)
  newpc base
  setNormalmap true

theorem enterFrame_eq (n : Byte) (s : State) :
    enterFrame n s = (pushTrapFrame n s >>= fun _ => enterErrorProc s) := by
  simp only [enterFrame, pushTrapFrame, enterErrorProc, bind_assoc]

theorem pushes_trapFrame (n : Byte) (s : State) : Pushes (pushTrapFrame n s) (trapFrame n s) :=
  (pushes_push _).seq ((pushes_push _).seq ((pushes_push _).seq ((pushes_push _).seq (pushes_push _))))

section
variable {s : State} (h : s.Sound) (hr : s.room 10 = true) (n : Byte) (rest : List Byte)
include h

theorem State.Sound.beginTrap : (s.beginTrap rest).Sound := { h with }

include hr

theorem State.Sound.trapFrame_pushed : ((s.beginTrap rest).pushedAll (trapFrame n s)).Sound ∧
    ((s.beginTrap rest).pushedAll (trapFrame n s)).spI = s.spI + 10 := by
  have hroom : (s.beginTrap rest).room (2 * ((trapFrame n s).length : Int) + 0) = true := hr
  obtain ⟨hs, hsp, _⟩ := (h.beginTrap rest).pushedAll (trapFrame n s) le_rfl hroom
  exact ⟨hs, hsp⟩

omit h hr in
theorem sameProgram_trapFrame_pushed : sameProgram s ((s.beginTrap rest).pushedAll (trapFrame n s)) :=
  sameProgram.trans (t := s.beginTrap rest) ⟨rfl, rfl, rfl, rfl⟩ (sameRest_pushedAll _ _).sameProgram

theorem State.Sound.enter_eq (hp : s.okproc (adr s.uerrorproc) = true) :
    enter n rest s = .ok () (s.trapped n rest) := by
  obtain ⟨hu, hsp⟩ := h.trapFrame_pushed hr n rest
  have hprogram := sameProgram_trapFrame_pushed (s := s) n rest
  have hpushes := pushes_trapFrame n s (s.beginTrap rest) (h.beginTrap rest) hr
  have hlisted : decide (adr s.uerrorproc < s.nproc) = true := decide_eq_true ((s.okproc_iff _).1 hp).2.1
  rw [State.trapped, ← hprogram.procBaseOf_eq]
  rw [← hprogram.okproc_eq] at hp
  generalize (s.beginTrap rest).pushedAll (trapFrame n s) = u at *
  have hlb : u.oklb (s.spI + 10) = true := by
    have := h.sp_even
    simp only [State.oklb, Bool.and_eq_true, decide_eq_true_eq]
    omega
  have h0 : 0 ≤ s.spI + 10 := by
    have := s.spI_ge
    omega
  calc enter n rest s
      = enterFrame n s (s.beginTrap rest) := rfl
    _ = _ := by rw [enterFrame_eq]; exact Op.bind_of_ok hpushes
    _ = _ := Op.bind_of_ok ((newlb_spec _ u).trans (if_pos hlb))
    _ = _ := Op.bind_of_ok ((require_spec _ _ _).trans (if_pos hlisted))
    _ = _ := Op.bind_of_ok ((hu.setLb h0 hlb).procBase_eq hp)
    _ = _ := Op.bind_of_ok ((newpc_spec _ (u.setLb _)).trans (if_pos (State.okpc_procBaseOf hp)))
    _ = _ := rfl

/-- The registers where the error procedure begins. -/
theorem State.Sound.trapped_registers : (s.trapped n rest).lbI = s.spI + 10 ∧ (s.trapped n rest).spI = s.spI + 10 := by
  have hge := s.spI_ge
  have hmax := h.maxdata_bounds
  have hhp := h.hp_le
  have hroom := (s.room_iff 10).1 hr
  exact ⟨State.lbI_setLb ((s.beginTrap rest).pushedAll (trapFrame n s)) (by omega) (by omega),
    (h.trapFrame_pushed hr n rest).2⟩

/-- The words of the frame, counted from the old top of the stack. -/
theorem State.Sound.trapped_word {j : Nat} (hj : j < (trapFrame n s).length) :
    (s.trapped n rest).word (s.spI + 2 + 2 * j) = u16 ((trapFrame n s).getD j 0) :=
  (h.beginTrap rest).word_pushedAll (trapFrame n s) j hr hj

/-- The words of the frame, counted from the new LB. -/
theorem State.Sound.trapped_frame : (s.trapped n rest).word (s.spI + 10) = u16 n.toNat ∧
    (s.trapped n rest).word (s.spI + 8) = s.pc ∧ (s.trapped n rest).word (s.spI + 6) = s.lb ∧
    (s.trapped n rest).word (s.spI + 4) = s.uerrorlb ∧
    (s.trapped n rest).word (s.spI + 2) = (if s.normalmap then 1#16 else 0#16) := by
  have hword {j : Nat} (hj : j < 5) {x : Int} (hx : x = s.spI + 2 + 2 * j) :
      (s.trapped n rest).word x = u16 ((trapFrame n s).getD j 0) := hx ▸ h.trapped_word hr n rest hj
  refine ⟨hword (j := 4) (by decide) (by omega), (hword (j := 3) (by decide) (by omega)).trans (u16_adr s.pc),
    (hword (j := 2) (by decide) (by omega)).trans (u16_adr s.lb),
    (hword (j := 1) (by decide) (by omega)).trans (u16_adr s.uerrorlb),
    (hword (j := 0) (by decide) (by omega)).trans ?_⟩
  show u16 (ofBool s.normalmap) = _
  cases s.normalmap <;> rfl

theorem State.Sound.storesOnly_trapped : storesOnly s (s.trapped n rest) (s.spI + 2) 10 :=
  (h.beginTrap rest).storesOnly_pushedAll (trapFrame n s) hr

end

theorem State.trapped_errorRegisters (s : State) (n : Byte) (rest : List Byte) :
    (s.trapped n rest).uerrorlb = 0#16 ∧ (s.trapped n rest).uerrorproc = 0#16 ∧
      (s.trapped n rest).saved = rest :: s.saved ∧ (s.trapped n rest).pending = [] := by
  rw [State.trapped, State.pushedAll_eq]
  exact ⟨rfl, rfl, rfl, rfl⟩

theorem deliver_enters {s : State} (h : s.wf = true) {n : Byte} {rest : List Byte} (hrun : s.status = .running)
    (hp : s.pending = n :: rest) (hd : s.defaultHandling = false) (hr : s.room 10 = true)
    (hproc : s.okproc (adr s.uerrorproc) = true) : runOp deliver s = .next (s.trapped n rest) := by
  have hs := (State.wf_iff_sound s).1 h
  refine runOp_of_ok ((deliver_of_cons hrun hp).trans ?_)
  rw [hd]
  exact hs.enter_eq hr n rest hproc

/-- Settles O50: `State.trapped` is the state the pushes and the five registers set behind them leave. -/
theorem trapEntryBuildsTheFrame : Obligations.TrapEntryBuildsTheFrame := by
  rintro s t n rest h hrun hp hd hr hproc ht
  obtain rfl : t = s.trapped n rest := ht
  have hs := (State.wf_iff_sound s).1 h
  obtain ⟨hlb, hsp⟩ := hs.trapped_registers hr n rest
  obtain ⟨hlink, hproc0, hsaved, hpending⟩ := s.trapped_errorRegisters n rest
  rw [hlb, show s.spI + 10 - 2 = s.spI + 8 by omega, show s.spI + 10 - 4 = s.spI + 6 by omega,
    show s.spI + 10 - 6 = s.spI + 4 by omega, show s.spI + 10 - 8 = s.spI + 2 by omega]
  obtain ⟨hn, hpc, hdyn, hstatic, hcontext⟩ := hs.trapped_frame hr n rest
  exact ⟨deliver_enters h hrun hp hd hr hproc, rfl, hsp, hlink, hproc0, hsaved, hpending, hn, hpc, hdyn, hstatic,
    hcontext, hs.storesOnly_trapped hr n rest⟩

/-! ## Return from a trap (R383, R418) -/

/-- What RTT leaves. -/
def State.untrapped (s : State) : State :=
  { s with
    pc := s.word (s.lbI - 2), lb := s.word (s.lbI - 4), sp := u16 (s.lbI - 10),
    normalmap := decide (s.word (s.lbI - 8) = 1#16),
    pending := (match s.saved with | [] => s.pending | l :: _ => l), saved := s.saved.tail }

theorem State.unmarked_eq (s : State) :
    s.unmarked = { s with pc := s.word (s.lbI - 2), lb := s.word (s.lbI - 4) } := by
  simp only [State.unmarked, State.setLb, State.setPc, u16_adr]

theorem s16_inj {v w : Word} : s16 v = s16 w ↔ v = w :=
  ⟨fun h => by rw [← u16_s16 v, h, u16_s16], congrArg s16⟩

/-- The frame of the error procedure: a mark block that can be left, and below it the context. -/
theorem returnFromTrap_eq {s : State} (h : s.Sound) (hret : s.okreturn = true)
    (hlink : adr (s.word (s.lbI - 4)) ≤ s.lbI - 8) (hcontext : s.okword (s.lbI - 8) = true) :
    returnFromTrap s = .ok () s.untrapped := by
  have h0 := State.nonneg_of_okword hcontext
  have heven := h.lb_even
  have hle := h.lb_le
  have hlt := h.sp_lt
  have hhp := h.hp_le
  have hmax := h.maxdata_bounds
  have hv := h.unmarked hret
  have hlb := s.unmarked_lbI
  have hone : decide (s16 (s.word (s.lbI - 8)) = 1) = decide (s.word (s.lbI - 8) = 1#16) :=
    decide_eq_decide.2 (s16_inj (w := 1#16))
  have hok : s.unmarked.oksp (s.lbI - 8) = true := by
    have hhp : s.unmarked.hpI = s.hpI := rfl
    simp only [State.oksp, Bool.and_eq_true, decide_eq_true_eq, hlb, hhp]
    omega
  have hsp : (s.unmarked.setSp (s.lbI - 8)).spI = s.lbI - 8 := State.spI_setSp _ (by omega) (by omega)
  have hhas : (s.unmarked.setSp (s.lbI - 8)).has 2 = true := by
    rw [State.has_iff, hsp, State.setSp_lbI, hlb]
    omega
  have hpopped : popw (s.unmarked.setSp (s.lbI - 8)) = .ok (s16 (s.word (s.lbI - 8))) (s.unmarked.setSp (s.lbI - 10)) := by
    rw [popw_spec (hv.setSp hok).wf hhas, State.top, State.drop, hsp, Int.mul_zero, Int.sub_zero, Int.sub_sub]
    rfl
  calc returnFromTrap s
      = _ := Op.get_bind _ s
    _ = _ := h.unmark_bind hret _
    _ = _ := Op.bind_of_ok ((newsp_spec _ _).trans (if_pos hok))
    _ = _ := Op.bind_of_ok hpopped
    _ = restorePending ((s.unmarked.setSp (s.lbI - 10)).setNormal (decide (s16 (s.word (s.lbI - 8)) = 1))) := rfl
    _ = .ok () s.untrapped := by
      rw [restorePending_spec, hone, State.unmarked_eq]
      rfl

/-- Settles O51: `State.untrapped` is the state RTT leaves, and its data space is the old one. -/
theorem returnFromTrapRestores : Obligations.ReturnFromTrapRestores := by
  rintro s t h hret hlink hcontext ht
  obtain rfl : t = s.untrapped := ht
  exact ⟨runOp_of_ok (returnFromTrap_eq ((State.wf_iff_sound s).1 h) hret hlink hcontext), fun _ => rfl⟩

/-! ## Entry and return together (R415 to R418) -/

/-- The frame a trap entry builds can be left. -/
theorem State.Sound.okreturn_trapped {s : State} (h : s.Sound) (hr : s.room 10 = true) (n : Byte) (rest : List Byte)
    (hs : (s.trapped n rest).Sound) :
    (s.trapped n rest).okreturn = true ∧ (s.trapped n rest).okword (s.spI + 2) = true := by
  obtain ⟨hlb, hsp⟩ := h.trapped_registers hr n rest
  obtain ⟨_, hpc, hdyn, _, _⟩ := h.trapped_frame hr n rest
  have hpd : (s.trapped n rest).pdI = s.pdI := by
    obtain ⟨_, hpd, _⟩ := sameProgram_trapFrame_pushed (s := s) n rest
    exact congrArg adr hpd
  generalize s.trapped n rest = t at *
  have hge := s.spI_ge
  have heven := h.sp_even
  have hlt := hs.sp_lt
  have hhp := hs.hp_le
  have hinText := h.pc_le
  have hlow := h.lb_le
  have hlbEven := h.lb_even
  rw [State.pcI] at hinText
  rw [State.lbI] at hlow hlbEven
  rw [State.okreturn_iff, State.okword_iff, State.okword_iff, State.okword_iff, hlb,
    show s.spI + 10 - 2 = s.spI + 8 by omega, show s.spI + 10 - 4 = s.spI + 6 by omega, hpc, hdyn, hpd]
  omega

/-- Settles O52: RTT reads the frame that trap entry built. -/
theorem trapRoundTrip : Obligations.TrapRoundTrip := by
  intro s t n rest h hrun hp hd hr hproc ht
  have hs := (State.wf_iff_sound s).1 h
  obtain rfl : t = s.trapped n rest := by
    cases ht.symm.trans (deliver_enters h hrun hp hd hr hproc)
    rfl
  have hsound : (s.trapped n rest).Sound :=
    sound_of_ok (enter_within (K := anyUpdate) trivial trivial n rest) hs (hs.enter_eq hr n rest hproc)
  obtain ⟨hret, hcontext⟩ := hs.okreturn_trapped hr n rest hsound
  obtain ⟨hlb, _⟩ := hs.trapped_registers hr n rest
  obtain ⟨_, hpc, hdyn, _, hnormal⟩ := hs.trapped_frame hr n rest
  obtain ⟨hlink, hproc0, hsaved, hpending⟩ := s.trapped_errorRegisters n rest
  have hstores := hs.storesOnly_trapped hr n rest
  have hhp : (s.trapped n rest).hp = s.hp := by
    rw [State.trapped, State.pushedAll_eq]
    rfl
  generalize s.trapped n rest = t at *
  have hlow : adr s.lb ≤ s.spI + 2 := hs.lb_le
  have hrtt := returnFromTrap_eq hsound hret
  rw [hlb, show s.spI + 10 - 4 = s.spI + 6 by omega, show s.spI + 10 - 8 = s.spI + 2 by omega, hdyn] at hrtt
  refine ⟨t.untrapped, runOp_of_ok (hrtt hlow hcontext), ?_⟩
  rw [State.untrapped, hlb, show s.spI + 10 - 2 = s.spI + 8 by omega, show s.spI + 10 - 4 = s.spI + 6 by omega,
    show s.spI + 10 - 8 = s.spI + 2 by omega, show s.spI + 10 - 10 = s.spI by omega, hpc, hdyn, hnormal, hsaved,
    s.u16_spI]
  refine ⟨rfl, rfl, rfl, hhp, ?_, rfl, rfl, hlink, hproc0, hstores⟩
  cases s.normalmap <;> rfl

end Sys2Proof.Machine
end

section
/-! Frames and blocks, halting, line numbers, registers, the error procedure (R366 to R369, R372 to R378, R380 to R382,
R384, R385): the statements about BEG, BES, BLM, BLS, DUP, DUS and EXG, about HLT and NOP, about LIN, LNI, RCK and RCS,
about STR, and about SIG. -/

namespace Sys2Proof.Machine

/-! ## Words reserved and removed (R366, R367) -/

theorem argz_accepts {k : Int} (hk : isZ k = true) (s : State) : argz k s = .ok k s := by
  have hr : require (isZ k) EILLINS s = .ok () s := by rw [require_spec, hk]; rfl
  exact Op.bind_of_ok hr

theorem isZ_even {k : Int} (hk : isZ k = true) : k % 2 = 0 := by
  simp only [isZ, Bool.and_eq_true, decide_eq_true_eq] at hk
  omega

theorem begPre_iff (k : Int) (s : State) :
    begPre k s = true ↔ isZ k = true ∧ (if 0 ≤ k then s.room k else s.has (-k)) = true := Bool.and_eq_true_iff

theorem reserve_bind {k : Int} (hk : isZ k = true) (s : State) :
    reserve k s = (if 0 ≤ k then pushTimes Config.undef (k / 2).toNat else newsp (s.spI + k)) s :=
  (Op.bind_of_ok (argz_accepts hk s)).trans (Op.get_bind _ s)

theorem completes_beg {k : Int} {s : State} (h : s.Sound) (hp : begPre k s = true) :
    completes (.beg k) s (begPost k s) (s.spI + 2) k := by
  obtain ⟨hk, hfits⟩ := (begPre_iff k s).1 hp
  have heven := isZ_even hk
  have hrun := reserve_bind hk s
  rw [begPost]
  by_cases h0 : 0 ≤ k
  · rw [if_pos h0] at hfits hrun ⊢
    have hlength : 2 * ((List.replicate (k / 2).toNat (-32768 : Int)).length : Int) = k := by
      rw [List.length_replicate]
      omega
    rw [← hlength] at hfits
    have hc := completes_pushedAll (i := .beg k) h hfits rfl rfl
      (runOp_of_ok (hrun.trans (pushes_pushTimes (-32768) _ s h hfits)))
    rwa [hlength] at hc
  · rw [if_neg h0] at hfits hrun ⊢
    have hdrop := h.newsp_drop (by omega) (by omega) hfits
    rw [State.drop, Int.sub_neg] at hdrop
    exact ⟨runOp_of_ok (hrun.trans hdrop), rfl, fun _ _ _ => rfl⟩

/-! ## Blocks copied (R368, R369) -/

theorem blmPre_iff (k : Int) (s : State) : blmPre k s = true ↔ isX k = true ∧ s.has 4 = true ∧
    (s.drop 4).okblock (s.topA 0) k = true ∧ (s.drop 4).okblock (s.topA 1) k = true ∧
    (s.topA 0 ≤ s.topA 1 ∨ s.topA 1 + k ≤ s.topA 0) := by
  simp only [blmPre, Bool.and_eq_true, Bool.or_eq_true, decide_eq_true_eq, and_assoc]

theorem blmPost_words (n : Nat) (s : State) :
    blmPost (2 * n) s = (s.drop 4).putWords (s.topA 0) ((s.drop 4).wordsAt (s.topA 1) n) := by
  rw [blmPost, toNat_two_mul_half, State.drop_wordsAt]

theorem completes_blm {k : Int} {s : State} (h : s.Sound) (hp : blmPre k s = true) :
    completes (.blm k) s (blmPost k s) (s.topA 0) k := by
  obtain ⟨hk, h4, hto, hfrom, hapart⟩ := (blmPre_iff k s).1 hp
  obtain ⟨n, rfl⟩ := isX_cases hk
  have hs4 := h.drop (by decide) (by decide) h4
  have hmoved := hs4.moveWords_eq n hto hfrom hapart
  have hstores := hs4.storesOnly_putWords (a := s.topA 0) ((s.drop 4).wordsAt (s.topA 1) n)
  rw [State.length_wordsAt] at hstores
  have hrun : blockMove (2 * n) s = .ok () (blmPost (2 * n) s) := by
    rw [blmPost_words]
    calc blockMove (2 * n) s
        = _ := Op.bind_of_ok (argx_accepts hk s)
      _ = _ := Op.bind_of_ok (popa_spec h.wf (State.has_of_le h4 (by decide)))
      _ = _ := Op.bind_of_ok (by simpa using popa_second h.wf h4 [])
      _ = _ := by rw [toNat_two_mul_half]; exact hmoved
  rw [blmPost_words] at hrun ⊢
  have hx : exec (.blm (2 * n)) s = runOp (blockMove (2 * n)) s := rfl
  exact ⟨hx.trans (runOp_of_ok hrun), sameRest.trans (t := s.drop 4) rfl (sameRest_putWords _ _ _), hstores hto⟩

/-! ## Words repeated and exchanged (R372 to R374) -/

theorem dupPre_iff (k : Int) (s : State) :
    dupPre k s = true ↔ isP k = true ∧ s.has k = true ∧ s.room k = true := by
  simp only [dupPre, Bool.and_eq_true, and_assoc]

theorem dupPost_words (n : Nat) (s : State) :
    dupPost (2 * n) s = s.pushedAll (s.wordsAt (s.spI - 2 * n + 2) n) := by
  rw [dupPost, toNat_two_mul_half]

/-- The last `n` of `m` words: SP rises with each push, so that the word read each time is the next one. -/
theorem State.Sound.duplicateWords_eq {m : Nat} (n : Nat) : ∀ {s : State}, s.Sound → n ≤ m →
    s.has (2 * m) = true → s.room (2 * n) = true →
    duplicateWords (2 * m) n s = .ok () (s.pushedAll (s.wordsAt (s.spI - 2 * m + 2) n)) := by
  induction n with
  | zero => exact fun _ _ _ _ => rfl
  | succ n ih =>
    intro s h hnm hh hr
    have hroom := (s.room_iff _).1 hr
    have hbase := (s.has_iff _).1 hh
    have h0 : 0 ≤ s.lbI := adr_nonneg s.lb
    have h2 : s.room 2 = true := (s.room_iff 2).2 (by omega)
    have hword : s.okword (s.spI - 2 * m + 2) = true := by
      have hok := State.okword_of_okblock h.wf (h.okblock_top hh) (j := 0) (by decide) (by decide) (by omega)
      rwa [Int.add_zero] at hok
    have hsp := h.spI_pushed h2 (s16 (s.word (s.spI - 2 * m + 2)))
    have hhas : (s.pushed (s16 (s.word (s.spI - 2 * m + 2)))).has (2 * m) = true := by
      rw [State.has_iff, hsp]
      change s.lbI ≤ _
      omega
    have hrest := ih (h.pushed h2 (s16 (s.word (s.spI - 2 * m + 2)))) (by omega) hhas
      (h.pushed_room (by omega) (by rwa [Nat.cast_succ, Int.mul_add] at hr) _)
    have hsame := (h.storesOnly_pushed (s16 (s.word (s.spI - 2 * m + 2)))).wordsAt_eq n
      (x := s.spI - 2 * m + 2 + 2) (by omega) (by omega)
    rw [hsp, show s.spI + 2 - 2 * (m : Int) + 2 = s.spI - 2 * m + 2 + 2 by omega, hsame] at hrest
    calc duplicateWords (2 * m) (n + 1) s
        = _ := Op.get_bind _ s
      _ = _ := Op.bind_of_ok (memw_of_okword hword)
      _ = _ := Op.bind_of_ok (h.push_eq h2 _)
      _ = _ := hrest

theorem completes_dup {k : Int} {s : State} (h : s.Sound) (hp : dupPre k s = true) :
    completes (.dup k) s (dupPost k s) (s.spI + 2) k := by
  obtain ⟨hk, hh, hr⟩ := (dupPre_iff k s).1 hp
  obtain ⟨n, _, rfl⟩ := isP_cases hk
  have hlength := congrArg (fun j : Nat => 2 * (j : Int)) (s.length_wordsAt n (s.spI - 2 * n + 2))
  have hrun : duplicate (2 * n) s = .ok () (s.pushedAll (s.wordsAt (s.spI - 2 * n + 2) n)) := by
    refine (Op.bind_of_ok (argp_accepts hk s)).trans ?_
    rw [toNat_two_mul_half]
    exact h.duplicateWords_eq n le_rfl hh hr
  have hc := completes_pushedAll (i := .dup (2 * n)) h (hlength.symm ▸ hr) rfl rfl (runOp_of_ok hrun)
  rw [dupPost_words]
  rwa [hlength] at hc

theorem completes_exg {s : State} (h : s.Sound) (h4 : s.has 4 = true) :
    completes .exg s ((s.drop 4).pushedAll [s.top 0, s.top 1]) (s.spI - 2) 4 := by
  obtain ⟨hs4, hr⟩ := h.dropped_four h4 []
  have hc := completes_two_to_two (i := .exg) (ns := []) (v := s.top 0) (w := s.top 1) h h4 rfl
  rw [State.raiseAll_nil] at hc hs4 hr
  exact hc ((Op.bind_of_ok (popWordPair_spec h.wf h4)).trans ((pushes_push _).seq (pushes_push _) _ hs4 hr))

/-- Settles O39: the stacked forms are the immediate ones behind the pop of the size. -/
theorem frameAndBlockInstructions : Obligations.FrameAndBlockInstructions := by
  refine ⟨fun s k h => ?beg, fun s k h => ?blm, fun s k h => ?dup⟩ <;> have hs := (State.wf_iff_sound s).1 h
  case beg =>
    exact ⟨completes_beg hs, fun h2 hp =>
      completes_stacked h h2 rfl rfl (completes_beg (hs.drop_two h2) hp) (by omega)⟩
  case blm =>
    refine ⟨completes_blm hs, fun h2 hp => ?_⟩
    have hc := completes_blm (hs.drop_two h2) hp
    rw [State.drop_topA h h2] at hc
    exact completes_stacked h h2 rfl rfl hc (by rw [State.drop_spI h (by decide) h2]; rfl)
  case dup =>
    exact ⟨completes_dup hs, fun h2 hp =>
      completes_stacked h h2 rfl rfl (completes_dup (hs.drop_two h2) hp) (by omega), completes_exg hs⟩

/-! ## Halting (R375, R380, R32) -/

theorem decode_hlt : decode true [0#8, 0#8] = .instr .hlt 2 :=
  decode_encoding (i := .hlt) (e := [0#8, 0#8]) (rest := []) rfl nofun (by decide)

/-- Settles O40: no rule applies to a machine that does not run. -/
theorem haltAndNop : Obligations.HaltAndNop := by
  refine ⟨decode_hlt, decode_nop [], fun s h => ⟨⟨exec_nop s, rfl, fun _ _ _ => rfl⟩, fun h2 => ?_⟩⟩
  have hs := (State.wf_iff_sound s).1 h
  have hword : u16 (s.top 0) = s.word s.spI := by rw [State.top, u16_s16, Int.mul_zero, Int.sub_zero]
  rw [← hword]
  refine ⟨runOp_popw_stops hs h2 rfl, fun _ => rfl, fun u hstep => ?_⟩
  rw [step, if_neg nofun] at hstep
  cases hstep

/-! ## Line numbers (R376, R377) -/

/-- A number between two bounds is neither below the one nor above the other. -/
theorem inside_eq_not_outside (a v b : Int) :
    (decide (a ≤ v) && decide (v ≤ b)) = !(decide (v < a) || decide (b < v)) := by
  rw [Bool.eq_iff_iff]
  simp

/-- The line number word is admitted where the stack holds anything (R67). -/
theorem State.Sound.okword_zero {s : State} (h : s.Sound) (h0 : 0 ≤ s.spI) : s.okword 0 = true := by
  have := h.sp_lt
  have := h.hp_le
  rw [State.okword_iff]
  omega

/-- What a line number raises. -/
def lineRaises (s : State) (v : Int) : List Byte := raisedIf (decide (v < 0) || decide (s.nline < v)) ELIN

theorem lino_eq {s : State} (h : s.Sound) (h0 : 0 ≤ s.spI) {v : Int} (ht : s.tolerates (lineRaises s v) = true) :
    lino v s = .ok () ((s.raiseAll (lineRaises s v)).putWord 0 v) := by
  have htest : require (decide (0 ≤ v) && decide (v ≤ s.nline)) ELIN s = .ok () (s.raiseAll (lineRaises s v)) := by
    have hqueued := require_queued (n := ELIN) (by decide) (s := s) (c := decide (v < 0) || decide (s.nline < v)) [] ht
    rwa [State.raiseAll_nil, ← inside_eq_not_outside] at hqueued
  calc lino v s
      = _ := Op.get_bind _ s
    _ = _ := Op.bind_of_ok htest
    _ = _ := store_of_okword (s := s.raiseAll _) (h.okword_zero h0) v

/-! ## Range checks (R381, R382) -/

theorem rckPre_iff (x : Int) (s : State) : rckPre x s = true ↔ isX x = true ∧ s.has 2 = true ∧
    s.okblock x 4 = true ∧ s.tolerates (rckRaises x s) = true := by
  simp only [rckPre, Bool.and_eq_true, and_assoc]

theorem completes_rck {x : Int} {s : State} (h : s.Sound) (hp : rckPre x s = true) :
    completes (.rck x) s (s.raiseAll (rckRaises x s)) 0 0 := by
  obtain ⟨hx, h2, hb, ht⟩ := (rckPre_iff x s).1 hp
  have hlower := State.okword_of_okblock h.wf hb (j := 0) (by decide) (by decide) (by decide)
  have hupper := State.okword_of_okblock h.wf hb (j := 2) (by decide) (by decide) (by decide)
  rw [Int.add_zero] at hlower
  have htop : memw s.spI s = .ok (s.top 0) s := by
    rw [State.top, Int.mul_zero, Int.sub_zero]
    have hw := h.okword_in_frame (j := 0) le_rfl h2
    rw [Int.mul_zero, Int.sub_zero] at hw
    exact memw_of_okword hw
  have htest := require_queued (n := ERANGE) (by decide) (s := s) [] ht
  rw [State.raiseAll_nil, ← inside_eq_not_outside] at htest
  refine ⟨runOp_of_ok ?_, rfl, fun _ _ _ => rfl⟩
  calc rangeCheck x s
      = _ := Op.bind_of_ok (argx_accepts hx s)
    _ = _ := Op.get_bind _ s
    _ = _ := Op.bind_of_ok htop
    _ = _ := Op.bind_of_ok (memw_of_okword hlower)
    _ = _ := Op.bind_of_ok (memw_of_okword hupper)
    _ = _ := htest

/-- Settles O41: LIN and LNI store the number whether it is in range or not; RCS is RCK behind the pop of the
descriptor's address. -/
theorem lineNumbersAndRangeChecks : Obligations.LineNumbersAndRangeChecks := by
  constructor
  · rintro s k v ns h h0 rfl ht
    have hs := (State.wf_iff_sound s).1 h
    have hzero := hs.okword_zero h0
    have hlino := lino_eq hs h0 ht
    refine ⟨fun hk hv => ?lin, fun hv => ?lni⟩
    case lin =>
      subst hv
      exact completes_inPlace hs hzero rfl ((Op.bind_of_ok (argn_accepts (decide_eq_true hk) s)).trans hlino)
    case lni =>
      subst hv
      exact completes_inPlace hs hzero rfl ((Op.bind_of_ok (memw_of_okword hzero)).trans hlino)
  · intro s k h
    have hs := (State.wf_iff_sound s).1 h
    exact ⟨completes_rck hs, fun h2 hp =>
      completes_stacked_popa hs h2 (completes_rck (hs.drop_two h2) hp) rfl rfl fun _ => rfl⟩

/-! ## Registers (R378, R385) -/

theorem State.oksp_iff (s : State) (a : Int) : s.oksp a = true ↔ s.lbI - 2 ≤ a ∧ a < s.hpI ∧ a % 2 = 0 := by
  simp only [State.oksp, Bool.and_eq_true, decide_eq_true_eq, and_assoc]

theorem State.oklb_iff (s : State) (a : Int) : s.oklb a = true ↔ a ≤ s.spI + 2 ∧ a % 2 = 0 := by
  simp only [State.oklb, Bool.and_eq_true, decide_eq_true_eq]

theorem State.okhp_iff (s : State) (a : Int) :
    s.okhp a = true ↔ s.spI < a ∧ a ≤ s.maxdata + 1 ∧ a % 2 = 0 := by
  simp only [State.okhp, Bool.and_eq_true, decide_eq_true_eq, and_assoc]

/-- STR with the register it names. -/
theorem exec_str_eq (s : State) : exec (.str 0) s = runOp (popa >>= newlb) s ∧
    exec (.str 1) s = runOp (popa >>= newsp) s ∧ exec (.str 2) s = runOp (popa >>= newhp) s := ⟨rfl, rfl, rfl⟩

/-- No other number names a register (decision D17). -/
theorem exec_other_register {k : Int} (hk : k < 0 ∨ 2 < k) (s : State) :
    exec (.str k) s = .next (s.abort EILLINS) ∧ exec (.lor k) s = .next (s.abort EILLINS) := by
  match k, hk with
  | .ofNat 0, hk | .ofNat 1, hk | .ofNat 2, hk => exact absurd hk (by decide)
  | .ofNat (_ + 3), _ | .negSucc _, _ => exact ⟨rfl, rfl⟩

/-- A popped value that the register admits or rejects. -/
theorem exec_popa_tested {i : Instr} {m : Int → Op Unit} {ok : State → Int → Bool} {set : State → Int → State}
    {n : Byte} {s : State} (h : s.wf = true) (h2 : s.has 2 = true) (hx : exec i s = runOp (popa >>= m) s)
    (hm : ∀ a t, m a t = if ok t a then .ok () (set t a) else .error () (t.abort n)) :
    (ok (s.drop 2) (s.topA 0) = true → exec i s = .next (set (s.drop 2) (s.topA 0))) ∧
    (¬ ok (s.drop 2) (s.topA 0) = true → exec i s = .next ((s.drop 2).abort n)) := by
  have hpop : (popa >>= m) s = _ := (Op.bind_of_ok (popa_spec h h2)).trans (hm _ _)
  exact ⟨fun hok => hx.trans (runOp_of_ok (hpop.trans (if_pos hok))),
    fun hno => hx.trans (runOp_of_error (hpop.trans (if_neg hno)))⟩

/-- Settles O42: the test of each register, as numbers, in the state behind the pop. -/
theorem storeRegister : Obligations.StoreRegister := by
  intro s k h h2
  obtain ⟨hlb, hsp, hhp⟩ := exec_str_eq s
  obtain ⟨lbOk, lbNo⟩ := exec_popa_tested h h2 hlb newlb_spec
  obtain ⟨spOk, spNo⟩ := exec_popa_tested h h2 hsp newsp_spec
  obtain ⟨hpOk, hpNo⟩ := exec_popa_tested h h2 hhp newhp_spec
  rw [State.oklb_iff, State.drop_spI h (by decide) h2] at lbOk lbNo
  rw [State.oksp_iff] at spOk spNo
  rw [State.okhp_iff, State.drop_spI h (by decide) h2] at hpOk hpNo
  change s.lbI - 2 ≤ _ ∧ _ < s.hpI ∧ _ → _ at spOk
  change ¬ (s.lbI - 2 ≤ _ ∧ _ < s.hpI ∧ _) → _ at spNo
  change _ ∧ _ ≤ s.maxdata + 1 ∧ _ → _ at hpOk
  change ¬ (_ ∧ _ ≤ s.maxdata + 1 ∧ _) → _ at hpNo
  exact ⟨fun _ _ => ⟨lbOk (by omega), fun _ => rfl⟩, fun _ _ _ => ⟨spOk (by omega), fun _ => rfl⟩,
    fun _ _ _ => ⟨hpOk (by omega), fun _ => rfl⟩, fun _ => lbNo (by omega), fun _ => spNo (by omega),
    fun _ => hpNo (by omega), fun hk => exec_other_register hk s⟩

/-! ## The error procedure (R384) -/

theorem lowByte_wordOf (lo hi : Byte) : lowByte (wordOf lo hi) = lo := by
  apply BitVec.eq_of_toNat_eq
  have := lo.isLt
  have := hi.isLt
  simp only [lowByte, wordOf, BitVec.toNat_ofNat]
  omega

theorem highByte_wordOf (lo hi : Byte) : highByte (wordOf lo hi) = hi := by
  apply BitVec.eq_of_toNat_eq
  have := lo.isLt
  have := hi.isLt
  simp only [highByte, wordOf, BitVec.toNat_ofNat]
  omega

/-- Equal words have equal bytes. -/
theorem State.bytes_eq_of_word_eq {s t : State} {a : Int} (ha : 0 ≤ a) (hw : t.word a = s.word a) :
    t.byte a = s.byte a ∧ t.byte (a + 1) = s.byte (a + 1) := by
  rw [State.word_eq_wordOf t ha, State.word_eq_wordOf s ha] at hw
  exact ⟨by simpa only [lowByte_wordOf] using congrArg lowByte hw,
    by simpa only [highByte_wordOf] using congrArg highByte hw⟩

/-- Data spaces of sound states that read alike are equal. -/
theorem State.Sound.data_ext {s t : State} (hs : s.Sound) (ht : t.Sound)
    (h : ∀ x : Int, 0 ≤ x → t.byte x = s.byte x) : t.data = s.data :=
  Memory.eq_of_read _ _ none ht.data_wf hs.data_wf fun x => h x (Int.natCast_nonneg x)

/-- What SIG leaves. -/
def State.exchanged (s : State) : State :=
  { (s.drop 4).pushedAll [adr s.uerrorlb, adr s.uerrorproc] with
    uerrorproc := s.word s.spI, uerrorlb := s.word (s.spI - 2) }

section
variable {s : State} (h : s.Sound) (h4 : s.has 4 = true)

theorem State.exchanged_eq (s : State) : s.exchanged = { s with
    sp := s.exchanged.sp, data := s.exchanged.data, uerrorproc := s.word s.spI, uerrorlb := s.word (s.spI - 2) } := by
  rw [State.exchanged, State.pushedAll_eq]
  rfl

theorem State.exchanged_lbI (s : State) : s.exchanged.lbI = s.lbI := by
  rw [State.lbI, State.lbI, State.exchanged_eq]

include h h4

theorem exec_sig : exec .sig s = .next s.exchanged := by
  obtain ⟨hs4, hr⟩ := h.dropped_four h4 []
  rw [State.raiseAll_nil] at hs4 hr
  have hpushed := (pushes_push (adr s.uerrorlb)).seq (pushes_push (adr s.uerrorproc)) (s.drop 4) hs4 hr
  have hproc : u16 (s.topA 0) = s.word s.spI := by rw [State.topA, u16_adr, Int.mul_zero, Int.sub_zero]
  have hlink : u16 (s.topA 1) = s.word (s.spI - 2) := by rw [State.topA, u16_adr, Int.mul_one]
  refine runOp_of_ok (m := popa >>= fun a => popa >>= fun b => get >>= fun s => push (adr s.uerrorlb) >>= fun _ =>
    push (adr s.uerrorproc) >>= fun _ => setErrorProc (u16 b) (u16 a)) ?_
  calc _ = _ := Op.bind_of_ok (popa_spec h.wf (State.has_of_le h4 (by decide)))
    _ = _ := Op.bind_of_ok (by simpa using popa_second h.wf h4 [])
    _ = _ := Op.get_bind _ _
    _ = ((push (adr s.uerrorlb) >>= fun _ => push (adr s.uerrorproc)) >>= fun _ =>
          setErrorProc (u16 (s.topA 1)) (u16 (s.topA 0))) (s.drop 4) := by rw [bind_assoc]; rfl
    _ = _ := Op.bind_of_ok hpushed
    _ = _ := by rw [hproc, hlink]; rfl

/-- The state behind SIG: sound, with the same SP, and the old error procedure in the place of the pair. -/
theorem State.Sound.exchanged : s.exchanged.Sound ∧ s.exchanged.spI = s.spI ∧
    s.exchanged.word s.spI = s.uerrorproc ∧ s.exchanged.word (s.spI - 2) = s.uerrorlb ∧
    storesOnly s s.exchanged (s.spI - 2) 4 := by
  obtain ⟨hs4, hr⟩ := h.dropped_four h4 []
  rw [State.raiseAll_nil] at hs4 hr
  have hdrop : (s.drop 4).spI = s.spI - 4 := State.drop_spI h.wf (by decide) h4
  obtain ⟨hs, hsp, _⟩ := hs4.pushedAll [adr s.uerrorlb, adr s.uerrorproc] (n := 0) le_rfl hr
  have hword {j : Nat} (hj : j < 2) {x : Int} (hx : x = s.spI - 2 + 2 * j) : s.exchanged.word x = _ :=
    (congrArg _ (by omega)).trans (hs4.word_pushedAll [adr s.uerrorlb, adr s.uerrorproc] j hr hj)
  have hstores := hs4.storesOnly_pushedAll [adr s.uerrorlb, adr s.uerrorproc] hr
  rw [hdrop, show s.spI - 4 + 2 = s.spI - 2 by omega] at hstores
  exact ⟨{ hs with }, hsp.trans (by rw [hdrop]; exact Int.sub_add_cancel _ _),
    (hword (j := 1) (by decide) (by omega)).trans (u16_adr _),
    (hword (j := 0) (by decide) (by omega)).trans (u16_adr _), hstores⟩

/-- A second exchange undoes the first. -/
theorem State.Sound.exchanged_exchanged : s.exchanged.exchanged = s := by
  obtain ⟨ht, htsp, htproc, htlink, htstores⟩ := h.exchanged h4
  have h4' : s.exchanged.has 4 = true := by
    rw [State.has_iff] at h4 ⊢
    rwa [s.exchanged_lbI, htsp]
  obtain ⟨hu, husp, huproc, hulink, hustores⟩ := ht.exchanged h4'
  have hproc : s.exchanged.uerrorproc = s.word s.spI := rfl
  have hlink : s.exchanged.uerrorlb = s.word (s.spI - 2) := rfl
  rw [htsp] at huproc hulink hustores
  have hsp : s.exchanged.exchanged.sp = s.sp := by rw [← State.u16_spI, husp, htsp, State.u16_spI]
  have h0 : 0 ≤ s.spI - 2 := by
    have hbase := (s.has_iff 4).1 h4
    have hlow : 0 ≤ s.lbI := adr_nonneg s.lb
    omega
  have hdata : s.exchanged.exchanged.data = s.data := h.data_ext hu fun x hx => by
    have hlower := State.bytes_eq_of_word_eq h0 (hulink.trans hlink)
    have hupper := State.bytes_eq_of_word_eq (show 0 ≤ s.spI by omega) (huproc.trans hproc)
    have houtside := htstores.trans hustores x hx
    obtain hout | rfl | rfl | rfl | rfl : (x < s.spI - 2 ∨ s.spI - 2 + 4 ≤ x) ∨
        x = s.spI - 2 ∨ x = s.spI - 2 + 1 ∨ x = s.spI ∨ x = s.spI + 1 := by omega
    · exact houtside hout
    · exact hlower.1
    · exact hlower.2
    · exact hupper.1
    · exact hupper.2
  rw [State.exchanged_eq, hsp, hdata, htsp, htproc, htlink, State.exchanged_eq]

end

/-- Settles O43: what SIG leaves is again such a state, and the second exchange is the first one undone. -/
theorem errorProcedureExchange : Obligations.ErrorProcedureExchange := by
  intro s t h h4 ht
  obtain rfl : t = s.exchanged := ht
  have hs := (State.wf_iff_sound s).1 h
  obtain ⟨hsound, hsp, _, _, hstores⟩ := hs.exchanged h4
  have h4' : s.exchanged.has 4 = true := by rwa [State.has_iff, s.exchanged_lbI, hsp, ← State.has_iff]
  refine ⟨exec_sig hs h4, hstores, fun u hu => ?_⟩
  cases (exec_sig hsound h4').symm.trans hu
  exact hs.exchanged_exchanged h4

end Sys2Proof.Machine
end

section
/-! Case jumps (R370, R371): the base of the procedure a table names, the offset an index selects, and the jump; the
statement about CSA and CSB. -/

namespace Sys2Proof.Machine

/-! ## What the two instructions share -/

/-- The base of the procedure that the first word of a case table names. -/
theorem State.Sound.caseBase_eq {s : State} (h : s.Sound) {c : Int} (hc : s.okword c = true)
    (hp : s.okproc (s16 (s.word c)) = true) : caseBase c s = .ok (s.procBaseOf (s16 (s.word c))) s := by
  obtain ⟨h0, hk, _⟩ := (s.okproc_iff _).1 hp
  calc caseBase c s
      = _ := Op.bind_of_ok (memw_of_okword hc)
    _ = _ := Op.bind_of_ok (requireProc_of_listed h0 hk)
    _ = _ := h.procBase_eq hp

/-- CSA and CSB up to the search: the table's address, the base of its procedure, the index. -/
theorem caseTable_bind {s : State} (h : s.Sound) (h4 : s.has 4 = true) (hc : (s.drop 2).okword (s.topA 0) = true)
    (hp : s.okproc (s16 (s.word (s.topA 0))) = true) (f : Int → Int → Int → Op Unit) :
    (popa >>= fun c => caseBase c >>= fun b => popw >>= f c b) s =
      f (s.topA 0) (s.procBaseOf (s16 (s.word (s.topA 0)))) (s.top 1) (s.drop 4) := by
  have h2 : s.has 2 = true := State.has_of_le h4 (by decide)
  have hindex : popw (s.drop 2) = .ok (s.top 1) (s.drop 4) := by simpa using popw_second h.wf h4 []
  calc _ = _ := Op.bind_of_ok (popa_spec h.wf h2)
    _ = _ := Op.bind_of_ok ((h.drop_two h2).caseBase_eq hc hp)
    _ = _ := Op.bind_of_ok hindex

/-- The two sequences a choice of the number to go on with is made of. -/
theorem Op.ite_bind_of_ok {α β : Type} {c : Prop} [Decidable c] {m m' : Op α} {f : α → Op β} {s : State} {v w : α}
    (hm : c → m s = .ok v s) (hm' : m' s = .ok w s) :
    (if c then m >>= f else m' >>= f) s = f (if c then v else w) s := by
  split
  · next hc => exact Op.bind_of_ok (hm hc)
  · exact Op.bind_of_ok hm'

/-- A case jump from `s` behind its two pops, to the offset `d` from the base `b`: no target, a target in the text, a
target outside. -/
theorem exec_caseJump {i : Instr} {s : State} {b d : Int} (hx : exec i s = runOp (caseJump b d) (s.drop 4)) :
    (d = -1 → exec i s = .next ((s.drop 4).abort ECASE)) ∧
    (d ≠ -1 → 0 ≤ b + d → b + d ≤ s.pdI → completes i s ((s.drop 4).setPc (b + d)) 0 0) ∧
    (d ≠ -1 → (b + d < 0 ∨ s.pdI < b + d) → exec i s = .next ((s.drop 4).abort EPC)) := by
  have hjump (hd : d ≠ -1) : exec i s = runOp (jump 0 (b + d)) (s.drop 4) := by
    rw [hx, caseJump, if_neg hd, jump_of_nonneg le_rfl]
  refine ⟨fun hd => ?missing, fun hd => completes_jump (hjump hd) rfl rfl le_rfl,
    fun hd => exec_jump_outside (hjump hd) le_rfl⟩
  case missing =>
    rw [hx, caseJump, if_pos hd]
    exact runOp_of_error (trap_of_fatal (by decide) _)

/-! ## CSA (R370) -/

/-- The offset CSA reads for the number `t` of an entry: that of the entry, or of no entry. -/
def csaOffset (s : State) (c t : Int) : Int :=
  if 0 ≤ t ∧ t ≤ s16 (s.word (c + 6)) then s16 (s.word (c + 8 + 2 * t)) else -1

/-- The offset CSA jumps by: the default takes the place of -1. -/
def csaTarget (s : State) (c t : Int) : Int :=
  if csaOffset s c t = -1 then s16 (s.word (c + 2)) else csaOffset s c t

theorem exec_csa {s : State} (h : s.Sound) (h4 : s.has 4 = true) (hb : (s.drop 4).okblock (s.topA 0) 8 = true)
    (hp : s.okproc (s16 (s.word (s.topA 0))) = true) {t : Int} (ht : t = s.top 1 - s16 (s.word (s.topA 0 + 4)))
    (hentry : 0 ≤ t ∧ t ≤ s16 (s.word (s.topA 0 + 6)) → (s.drop 4).okword (s.topA 0 + 8 + 2 * t) = true) :
    exec .csa s = runOp (caseJump (s.procBaseOf (s16 (s.word (s.topA 0)))) (csaTarget s (s.topA 0) t)) (s.drop 4) := by
  subst ht
  have hs4 := h.drop (by decide) (by decide) h4
  have hread {j : Int} (h0 : 0 ≤ j) (heven : j % 2 = 0) (hj : j + 2 ≤ 8) :
      memw (s.topA 0 + j) (s.drop 4) = .ok (s16 (s.word (s.topA 0 + j))) (s.drop 4) :=
    memw_of_okword (State.okword_of_okblock hs4.wf hb h0 heven hj)
  have hfirst : (s.drop 2).okword (s.topA 0) = true := by
    have hb2 := State.okblock_drop_mono h.wf (show (0 : Int) ≤ 2 by decide) (by decide) h4 hb
    have hok := State.okword_of_okblock (h.drop_two (State.has_of_le h4 (by decide))).wf hb2 (j := 0) (by decide)
      (by decide) (by decide)
    rwa [Int.add_zero] at hok
  refine runOp_congr ((caseTable_bind h h4 hfirst hp _).trans ?_)
  calc _ = _ := Op.bind_of_ok (hread (j := 4) (by decide) (by decide) (by decide))
    _ = _ := Op.bind_of_ok (hread (j := 6) (by decide) (by decide) (by decide))
    _ = _ := Op.ite_bind_of_ok (fun hin => memw_of_okword (hentry hin)) rfl
    _ = _ := Op.ite_bind_of_ok (fun _ => hread (j := 2) (by decide) (by decide) (by decide)) rfl

/-! ## CSB (R371) -/

/-- The search looks at the entries from the first on and reads nothing behind the one it finds. -/
theorem searchCase_eq {s : State} (t : Int) (n : Nat) : ∀ {a : Int},
    (∀ j : Nat, j < n → s.okword (a + 4 * j) = true) →
    searchCase t n a s = .ok
      (((List.range n).find? fun j : Nat => decide (s16 (s.word (a + 4 * j)) = t)).map fun j : Nat => a + 4 * j) s := by
  induction n with
  | zero => exact fun _ => rfl
  | succ n ih =>
    intro a hok
    have hfirst := hok 0 (Nat.succ_pos n)
    rw [Nat.cast_zero, Int.mul_zero, Int.add_zero] at hfirst
    have hnext (j : Nat) : a + 4 + 4 * (j : Int) = a + 4 * (j + 1 : Nat) := by omega
    have hrest := ih (a := a + 4) fun j hj => by rw [hnext]; exact hok (j + 1) (Nat.succ_lt_succ hj)
    refine (Op.bind_of_ok (memw_of_okword hfirst)).trans ?_
    simp only [hnext] at hrest
    rw [List.range_succ_eq_map, List.find?_cons, List.find?_map, Nat.cast_zero, Int.mul_zero, Int.add_zero]
    by_cases htv : t = s16 (s.word a)
    · rw [if_pos htv, decide_eq_true htv.symm, Option.map_some, Nat.cast_zero, Int.mul_zero, Int.add_zero]
      rfl
    · rw [if_neg htv, decide_eq_false (Ne.symm htv), hrest, Option.map_map]
      rfl

/-- The offset CSB jumps by: that of the entry found, or the default; -1 is not replaced. -/
def csbTarget (s : State) (c : Int) (found : Option Nat) : Int :=
  match found with
  | some j => s16 (s.word (c + 8 + 4 * (j : Int)))
  | none => s16 (s.word (c + 2))

/-- What CSB reads once the search has ended. -/
theorem csbTarget_bind {s : State} (h : s.Sound) {c : Int} {n : Nat} (hb : s.okblock c (6 + 4 * n) = true)
    {found : Option Nat} (hfound : ∀ j ∈ found, j < n) (b : Int) :
    (match found.map fun j : Nat => c + 6 + 4 * (j : Int) with
      | some a => memw (a + 2) >>= caseJump b
      | none => memw (c + 2) >>= caseJump b) s = caseJump b (csbTarget s c found) s := by
  cases found with
  | none => exact Op.bind_of_ok (memw_of_okword (State.okword_of_okblock h.wf hb (by decide) (by decide) (by omega)))
  | some j =>
    have hj := hfound j rfl
    have hok := State.okword_of_okblock h.wf hb (j := 8 + 4 * j) (by omega) (by omega) (by omega)
    rw [← Int.add_assoc] at hok
    have hread : memw (c + 6 + 4 * (j : Int) + 2) s = .ok (csbTarget s c (some j)) s := by
      rw [show c + 6 + 4 * (j : Int) + 2 = c + 8 + 4 * j by omega]
      exact memw_of_okword hok
    exact Op.bind_of_ok hread

theorem exec_csb {s : State} (h : s.Sound) (h4 : s.has 4 = true) {n : Nat}
    (hn : n = (s16 (s.word (s.topA 0 + 4))).toNat) (hb : (s.drop 4).okblock (s.topA 0) (6 + 4 * n) = true)
    (hp : s.okproc (s16 (s.word (s.topA 0))) = true) {found : Option Nat}
    (hfound : found = (List.range n).find? fun j : Nat => decide (s16 (s.word (s.topA 0 + 6 + 4 * j)) = s.top 1)) :
    exec .csb s = runOp (caseJump (s.procBaseOf (s16 (s.word (s.topA 0)))) (csbTarget s (s.topA 0) found)) (s.drop 4) := by
  have hs4 := h.drop (by decide) (by decide) h4
  have hcount : memw (s.topA 0 + 4) (s.drop 4) = .ok (s16 (s.word (s.topA 0 + 4))) (s.drop 4) :=
    memw_of_okword (State.okword_of_okblock hs4.wf hb (by decide) (by decide) (by omega))
  have hentries (j : Nat) (hj : j < n) : (s.drop 4).okword (s.topA 0 + 6 + 4 * j) = true := by
    rw [Int.add_assoc]
    exact State.okword_of_okblock hs4.wf hb (by omega) (by omega) (by omega)
  have hfirst : (s.drop 2).okword (s.topA 0) = true := by
    have hb2 := State.okblock_drop_mono h.wf (show (0 : Int) ≤ 2 by decide) (by decide) h4 hb
    have hok := State.okword_of_okblock (h.drop_two (State.has_of_le h4 (by decide))).wf hb2 (j := 0) (by decide)
      (by decide) (by omega)
    rwa [Int.add_zero] at hok
  have hsearch := searchCase_eq (s := s.drop 4) (s.top 1) n hentries
  change _ = EStateM.Result.ok (Option.map _ (List.find?
    (fun j : Nat => decide (s16 (s.word (s.topA 0 + 6 + 4 * j)) = s.top 1)) _)) _ at hsearch
  rw [← hfound] at hsearch
  have hinside (j : Nat) (hj : j ∈ found) : j < n := by
    rw [hfound] at hj
    exact List.mem_range.1 (List.mem_of_find?_eq_some hj)
  refine runOp_congr ((caseTable_bind h h4 hfirst hp _).trans ?_)
  calc _ = _ := Op.bind_of_ok hcount
    _ = _ := by rw [← hn]; exact Op.bind_of_ok hsearch
    _ = _ := csbTarget_bind hs4 hb hinside _

/-- Settles O38: each instruction is a jump by the offset its table gives. -/
theorem caseJumps : Obligations.CaseJumps := by
  constructor
  · rintro s c t o d h h4 rfl hb hp ht hentry rfl rfl
    exact exec_caseJump (exec_csa ((State.wf_iff_sound s).1 h) h4 hb hp ht hentry)
  · rintro s c n found d h h4 rfl rfl hb hp hfound rfl
    exact exec_caseJump (exec_csb ((State.wf_iff_sound s).1 h) h4 rfl hb hp hfound)

end Sys2Proof.Machine
end

section
/-! Monitor calls (R400 to R409): the bytes the host stores, parameters popped and results pushed, the table of signal
actions; the statements about MON and about Sigtrp. -/

namespace Sys2Proof.Machine

/-! ## The bytes the host stores (R64, R408) -/

theorem State.admits_iff (s : State) (n : Nat) : ∀ {a : Nat},
    s.admits a n = true ↔ ∀ j : Nat, j < n → s.okadr ((a + j : Nat) : Int) = true := by
  induction n with
  | zero => exact fun {_} => ⟨fun _ _ hj => absurd hj (Nat.not_lt_zero _), fun _ => rfl⟩
  | succ n ih =>
    intro a
    rw [State.admits, Bool.and_eq_true, ih]
    constructor
    · rintro ⟨hfirst, hrest⟩ (_ | j) hj
      · exact hfirst
      · rw [show a + (j + 1) = a + 1 + j by omega]
        exact hrest j (Nat.lt_of_succ_lt_succ hj)
    · refine fun hall => ⟨hall 0 (Nat.succ_pos n), fun j hj => ?_⟩
      rw [show a + 1 + j = a + (j + 1) by omega]
      exact hall (j + 1) (Nat.succ_lt_succ hj)

theorem State.read_storeAdmitted_outside (s : State) (bs : List Byte) : ∀ {a : Nat} {m : Memory} {y : Nat},
    m.wf = true → y < a ∨ a + bs.length ≤ y → (s.storeAdmitted a bs m).read y = m.read y := by
  induction bs with
  | nil => exact fun _ _ => rfl
  | cons b bs ih =>
    intro a m y h hy
    rw [List.length_cons] at hy
    rw [State.storeAdmitted]
    split
    · rw [ih (Memory.wf_write m a b h) (by omega), Memory.read_write m h, if_neg (by omega)]
    · exact ih h (by omega)

/-- Where every address is admitted the bytes are stored as they are. -/
theorem State.storeAdmitted_eq_writeBytes (s : State) (bs : List Byte) : ∀ {a : Nat} (m : Memory),
    s.admits a bs.length = true → s.storeAdmitted a bs m = m.writeBytes a bs := by
  induction bs with
  | nil => exact fun _ _ => rfl
  | cons b bs ih =>
    intro a m h
    obtain ⟨hfirst, hrest⟩ := (Bool.and_eq_true _ _).mp h
    rw [State.storeAdmitted, if_pos hfirst, ih _ hrest, Memory.writeBytes]

/-! ## The table of calls (R403, R404, R408) -/

theorem monCall_mem {code : Int} {c : MonCall} (h : monCall code = some c) : c ∈ monCalls1 ++ monCalls2 :=
  List.mem_of_find?_eq_some h

/-- Read returns e and R0, Write has no buffer the host may store to. -/
theorem monCalls_read_write : ∀ c ∈ monCalls1 ++ monCalls2,
    (c.code = monRead → c.hasR0 = true ∧ c.hasR1 = false ∧ c.hasE = true) ∧
      (c.code = monWrite → c.buffer = none) := by
  decide

section
variable {c : MonCall} (ps : List Word) (a : MonAnswer)

theorem hostBytes_of_none (h : c.buffer = none) : hostBytes c ps a = [] := by
  rw [hostBytes, h]

theorem length_hostBytes_read (h : c.code = monRead) : (hostBytes c ps a).length ≤ byteCount ps := by
  unfold hostBytes
  split
  · exact Nat.zero_le _
  · rw [if_pos h, List.length_take]
    exact Nat.min_le_left _ _

/-- What the host stores fits the buffer. -/
theorem length_hostBytes_le {code : Int} (hc : monCall code = some c) :
    (hostBytes c ps a).length ≤ bufferSize c ps a := by
  obtain ⟨_, hwrite⟩ := monCalls_read_write c (monCall_mem hc)
  rw [bufferSize]
  split
  · next h =>
    obtain h | h := h
    · exact length_hostBytes_read ps a h
    · rw [hostBytes_of_none ps a (hwrite h)]
      exact Nat.zero_le _
  · exact le_rfl

theorem callSucceeds_admits {s : State} (he : c.hasE = true) (h : callSucceeds s c ps a = true) :
    s.admits (bufferAddress c ps) (bufferSize c ps a) = true := by
  rw [callSucceeds, he, Bool.not_true, Bool.false_or, Bool.and_eq_true, Bool.and_eq_true] at h
  exact h.1.2

theorem callResults_success {s : State} (h : callSucceeds s c ps a = true) : callResults s c ps a =
    ((if c.code = monRead then u16 (hostBytes c ps a).length else a.r0),
      (if c.code = monFork then a.r1 &&& 1#16 else a.r1), 0#16) := if_pos h

theorem callResults_failure {s : State} (h : callSucceeds s c ps a = false) :
    callResults s c ps a = (errorNumber a.err, a.r1, errorNumber a.err) := if_neg (by rw [h]; exact Bool.false_ne_true)

end

/-- The error code of a call that fails is not zero (R404, log entry 12). -/
theorem s16_errorNumber_ne_zero (w : Word) : s16 (errorNumber w) ≠ 0 := by
  refine fun h => absurd ((s16_inj (w := 0#16)).1 h) ?_
  rw [errorNumber]
  split
  · decide
  · assumption

/-! ## Result words pushed (R401, R404) -/

/-- What `pushIf` pushes. -/
def wordIf (present : Bool) (w : Word) : List Int := if present then [adr w] else []

theorem pushes_pushIf (present : Bool) (w : Word) : Pushes (pushIf present w) (wordIf present w) := by
  cases present with
  | true => exact pushes_push (adr w)
  | false => exact fun _ _ _ => rfl

/-- The result words (R0, R1, e) a call has, the first one lowest. -/
def resultWords (c : MonCall) (r : Word × Word × Word) : List Int :=
  wordIf c.hasR0 r.1 ++ (wordIf c.hasR1 r.2.1 ++ wordIf c.hasE r.2.2)

/-- What every call ends with. -/
def pushResults (c : MonCall) (r : Word × Word × Word) : Op Unit := do
  pushIf c.hasR0 r.1
  pushIf c.hasR1 r.2.1
  pushIf c.hasE r.2.2

theorem pushes_pushResults (c : MonCall) (r : Word × Word × Word) : Pushes (pushResults c r) (resultWords c r) :=
  (pushes_pushIf _ _).seq ((pushes_pushIf _ _).seq (pushes_pushIf _ _))

theorem length_resultWords (c : MonCall) (r : Word × Word × Word) : 2 * ((resultWords c r).length : Int) =
    (if c.hasR0 then 2 else 0) + (if c.hasR1 then 2 else 0) + (if c.hasE then 2 else 0) := by
  have hword (b : Bool) (w : Word) : 2 * ((wordIf b w).length : Int) = if b then 2 else 0 := by cases b <;> rfl
  rw [resultWords, List.length_append, List.length_append, Nat.cast_add, Nat.cast_add, Int.mul_add, Int.mul_add, hword,
    hword, hword, Int.add_assoc]

section
variable {v : State} (h : v.Sound) {c : MonCall} {r : Word × Word × Word}
  (hr : v.room (2 * (resultWords c r).length) = true)
include h hr

/-- The error code is on top. -/
theorem State.Sound.word_error (he : c.hasE = true) :
    (v.pushedAll (resultWords c r)).word (v.pushedAll (resultWords c r)).spI = r.2.2 := by
  have hlast : resultWords c r = (wordIf c.hasR0 r.1 ++ wordIf c.hasR1 r.2.1) ++ [adr r.2.2] := by
    rw [resultWords, he, List.append_assoc]
    rfl
  rw [hlast] at hr ⊢
  rw [List.length_append, Nat.cast_add, Int.mul_add] at hr
  obtain ⟨hs, _, hroom⟩ := h.pushedAll _ (by omega) hr
  rw [← State.pushedAll_append]
  exact (hs.word_pushed hroom _).trans (u16_adr _)

/-- R0 is the lowest. -/
theorem State.Sound.word_r0 (h0 : c.hasR0 = true) :
    (v.pushedAll (resultWords c r)).word (v.spI + 2) = r.1 := by
  have hfirst : resultWords c r = adr r.1 :: (wordIf c.hasR1 r.2.1 ++ wordIf c.hasE r.2.2) := by
    rw [resultWords, h0]
    rfl
  have hword := h.word_pushedAll _ 0 hr (by rw [hfirst]; exact Nat.succ_pos _)
  rw [Nat.cast_zero, Int.mul_zero, Int.add_zero] at hword
  rw [hword, hfirst]
  exact u16_adr _

end

/-! ## A call (R379, R401) -/

theorem exec_mon {s : State} (h : s.Sound) (h2 : s.has 2 = true) : exec .mon s =
    runOp (match monCall (s.top 0) with | none => trap EMON | some c => monitorCall c) (s.drop 2) :=
  runOp_congr (Op.bind_of_ok (popw_spec h.wf h2))

theorem exec_mon_of_call {s : State} (h : s.Sound) (h2 : s.has 2 = true) {c : MonCall} (hc : monCall (s.top 0) = some c) :
    exec .mon s = runOp (monitorCall c) (s.drop 2) := by
  rw [exec_mon h h2, hc]

/-- What a call does between its pops and its pushes. -/
def callBody (c : MonCall) (ps : List Word) : Op (Word × Word × Word) :=
  if c.code = monSigtrp then sigtrp (ps.getD 0 0#16) (ps.getD 1 0#16) else hostCall c ps

/-- Parameters popped, results pushed: `v` is the state between. -/
theorem exec_mon_eq {s v : State} {c : MonCall} {n : Int} {ps : List Word} {r : Word × Word × Word} (h : s.Sound)
    (hc : monCall (s.top 0) = some c) (hn : n = 2 + 2 * (c.nparams : Int)) (hhas : s.has n = true)
    (hps : ps = ((s.tops 1 c.nparams).map u16).reverse) (hbody : callBody c ps (s.drop n) = .ok r v) (hv : v.Sound)
    (hr : v.room (2 * (resultWords c r).length) = true) : exec .mon s = .next (v.pushedAll (resultWords c r)) := by
  subst hn
  have h2 : s.has 2 = true := State.has_of_le hhas (by omega)
  have hpop := popParams_spec c.nparams (h.drop_two h2).wf (State.drop_has h.wf (by decide) h2 hhas)
  rw [State.tops_drop (State.drop_spI h.wf (by decide) h2), Int.zero_add, ← hps, State.drop_drop h.wf (by decide) h2]
    at hpop
  rw [exec_mon_of_call h h2 hc]
  refine runOp_of_ok ((Op.bind_of_ok hpop).trans ?_)
  have hpushed := (Op.bind_of_ok (f := pushResults c) hbody).trans (pushes_pushResults c r v hv hr)
  rw [callBody] at hpushed
  split
  · next hsig =>
    rw [if_pos hsig] at hpushed
    exact hpushed
  · next hhost =>
    rw [if_neg hhost] at hpushed
    exact hpushed

/-! ## Calls of the host (R400, R408) -/

/-- The state with the host's bytes stored and the host gone on. -/
def State.hostStored (u : State) (c : MonCall) (ps : List Word) (a : MonAnswer) : State :=
  { u with data := u.storeAdmitted (bufferAddress c ps) (hostBytes c ps a) u.data, host := a.host }

theorem callBody_of_host {c : MonCall} (hsig : c.code ≠ monSigtrp) {ps : List Word} {u : State} {a : MonAnswer}
    (ha : a = Config.monHost u.host c.code.toNat ps u.data) :
    callBody c ps u = .ok (callResults u c ps a) (u.hostStored c ps a) := by
  rw [callBody, if_neg hsig, hostCall_spec, ← ha]
  rfl

section
variable {u : State} (h : u.Sound) (c : MonCall) (ps : List Word) (a : MonAnswer)
include h

theorem State.Sound.hostStored : (u.hostStored c ps a).Sound :=
  (Update.storeAdmitted (K := anyUpdate) (bufferAddress c ps) (hostBytes c ps a) a.host).sound h

/-- Nothing is stored outside the bytes from the buffer's address. -/
theorem State.Sound.byte_hostStored_outside {x : Int} (h0 : 0 ≤ x)
    (hx : x < bufferAddress c ps ∨ (bufferAddress c ps : Int) + (hostBytes c ps a).length ≤ x) :
    (u.hostStored c ps a).byte x = u.byte x :=
  State.read_storeAdmitted_outside u (hostBytes c ps a) h.data_wf (by omega)

/-- An admitted buffer takes the host's bytes. -/
theorem State.Sound.byte_hostStored (hadmits : u.admits (bufferAddress c ps) (hostBytes c ps a).length = true) {j : Nat}
    (hj : j < (hostBytes c ps a).length) :
    (u.hostStored c ps a).byte ((bufferAddress c ps : Int) + j) = (hostBytes c ps a).getD j 0#8 := by
  rw [← Nat.cast_add, State.byte, Int.toNat_natCast, State.hostStored, State.storeAdmitted_eq_writeBytes _ _ _ hadmits]
  exact Memory.read_writeBytes _ h.data_wf hj

end

/-! ## The state a call of the host leaves (R401, R404, R408) -/

/-- The host's bytes stored and the results pushed. -/
def State.hostAnswered (u : State) (c : MonCall) (ps : List Word) (a : MonAnswer) : State :=
  (u.hostStored c ps a).pushedAll (resultWords c (callResults u c ps a))

theorem State.hostAnswered_eq (u : State) (c : MonCall) (ps : List Word) (a : MonAnswer) : u.hostAnswered c ps a =
    { u with sp := (u.hostAnswered c ps a).sp, data := (u.hostAnswered c ps a).data, host := a.host } :=
  State.pushedAll_eq _ _

section
variable {u : State} (h : u.Sound) {c : MonCall} (ps : List Word) (a : MonAnswer) {r : Int}
  (hr : r = (if c.hasR0 then 2 else 0) + (if c.hasR1 then 2 else 0) + (if c.hasE then 2 else 0))
  (hroom : u.room r = true)

include hr hroom in
theorem State.hostStored_room (res : Word × Word × Word) :
    (u.hostStored c ps a).room (2 * (resultWords c res).length) = true := by
  rwa [length_resultWords, ← hr]

include h hr hroom

theorem State.Sound.spI_hostAnswered : (u.hostAnswered c ps a).spI = u.spI + r := by
  obtain ⟨_, hsp, _⟩ := (h.hostStored c ps a).pushedAll (resultWords c (callResults u c ps a)) le_rfl
    (by rw [Int.add_zero]; exact State.hostStored_room ps a hr hroom _)
  rw [length_resultWords, ← hr] at hsp
  exact hsp

/-- The results go where nothing is admitted: between SP and HP. -/
theorem State.Sound.byte_hostAnswered {x : Int} (hx : 0 ≤ x) (hout : x < u.spI + 2 ∨ u.spI + 2 + r ≤ x) :
    (u.hostAnswered c ps a).byte x = (u.hostStored c ps a).byte x := by
  have hpush := (h.hostStored c ps a).storesOnly_pushedAll _ (State.hostStored_room ps a hr hroom (callResults u c ps a))
  rw [length_resultWords, ← hr] at hpush
  exact hpush x hx hout

/-- A buffer the host's bytes fit holds them after the call. -/
theorem State.Sound.buffer_hostAnswered (hadmits : u.admits (bufferAddress c ps) (hostBytes c ps a).length = true) {j : Nat}
    (hj : j < (hostBytes c ps a).length) :
    (u.hostAnswered c ps a).byte ((bufferAddress c ps : Int) + j) = (hostBytes c ps a).getD j 0#8 := by
  have hok := (State.okadr_iff u _).1 ((State.admits_iff u _).1 hadmits j hj)
  have hbelow : u.spI + 2 + r ≤ u.hpI := by
    have hgap := (State.room_iff u r).1 hroom
    have hsp := h.sp_even
    have hhp := h.hp_even
    have heven : r % 2 = 0 := by rw [hr]; split <;> split <;> split <;> decide
    omega
  rw [h.byte_hostAnswered ps a hr hroom (by omega) (by omega)]
  exact h.byte_hostStored c ps a hadmits hj

theorem State.Sound.word_error_hostAnswered (he : c.hasE = true) :
    (u.hostAnswered c ps a).word (u.hostAnswered c ps a).spI = (callResults u c ps a).2.2 :=
  (h.hostStored c ps a).word_error (State.hostStored_room ps a hr hroom _) he

theorem State.Sound.word_r0_hostAnswered (h0 : c.hasR0 = true) :
    (u.hostAnswered c ps a).word ((u.hostAnswered c ps a).spI - r + 2) = (callResults u c ps a).1 := by
  rw [h.spI_hostAnswered ps a hr hroom, Int.add_sub_cancel]
  exact (h.hostStored c ps a).word_r0 (State.hostStored_room ps a hr hroom _) h0

theorem State.Sound.top_error_hostAnswered (he : c.hasE = true) :
    (u.hostAnswered c ps a).top 0 = s16 (callResults u c ps a).2.2 := by
  rw [State.top, Int.mul_zero, Int.sub_zero, h.word_error_hostAnswered ps a hr hroom he]

/-- Success: e is zero, and the buffer has the bytes. -/
theorem State.Sound.hostAnswered_success {code : Int} (hc : monCall code = some c) (he : c.hasE = true)
    (hok : callSucceeds u c ps a = true) :
    (u.hostAnswered c ps a).top 0 = 0 ∧ u.admits (bufferAddress c ps) (bufferSize c ps a) = true ∧
      ∀ j : Nat, j < (hostBytes c ps a).length →
        (u.hostAnswered c ps a).byte ((bufferAddress c ps : Int) + j) = (hostBytes c ps a).getD j 0#8 := by
  have hsize := callSucceeds_admits ps a he hok
  have hbytes : u.admits (bufferAddress c ps) (hostBytes c ps a).length = true :=
    (State.admits_iff u _).2 fun j hj =>
      (State.admits_iff u _).1 hsize j (Nat.lt_of_lt_of_le hj (length_hostBytes_le ps a hc))
  refine ⟨?_, hsize, fun j hj => h.buffer_hostAnswered ps a hr hroom hbytes hj⟩
  rw [h.top_error_hostAnswered ps a hr hroom he, callResults_success ps a hok]
  rfl

/-- Failure: e is not zero, and R0 is the same number. -/
theorem State.Sound.hostAnswered_failure (he : c.hasE = true) (hfail : callSucceeds u c ps a = false) :
    (u.hostAnswered c ps a).top 0 ≠ 0 ∧ (c.hasR0 = true → (u.hostAnswered c ps a).word
      ((u.hostAnswered c ps a).spI - r + 2) = (u.hostAnswered c ps a).word (u.hostAnswered c ps a).spI) := by
  constructor
  · rw [h.top_error_hostAnswered ps a hr hroom he, callResults_failure ps a hfail]
    exact s16_errorNumber_ne_zero _
  · intro h0
    rw [h.word_r0_hostAnswered ps a hr hroom h0, h.word_error_hostAnswered ps a hr hroom he,
      callResults_failure ps a hfail]

/-- Read reports how many bytes it delivered. -/
theorem State.Sound.hostAnswered_read {code : Int} (hc : monCall code = some c) (hread : c.code = monRead)
    (hok : callSucceeds u c ps a = true) : (u.hostAnswered c ps a).topA 1 = (hostBytes c ps a).length := by
  obtain ⟨h0, h1, he⟩ := (monCalls_read_write c (monCall_mem hc)).1 hread
  have hr0 := h.word_r0_hostAnswered ps a hr hroom h0
  have hr4 : r = 4 := by rw [hr, h0, h1, he]; rfl
  have hcount := length_hostBytes_read ps a hread
  have hword : byteCount ps < 65536 := (ps.getD 1 0#16).isLt
  rw [callResults_success ps a hok, if_pos hread, hr4] at hr0
  rw [State.topA, show ∀ x : Int, x - 2 * 1 = x - 4 + 2 by omega, hr0]
  exact adr_u16 (Int.natCast_nonneg _) (by omega)

end

/-- The call completes: parameters popped, the host's answer stored and pushed. -/
theorem exec_mon_host {s : State} {c : MonCall} {p : Int} {ps : List Word} {a : MonAnswer} (h : s.Sound)
    (hc : monCall (s.top 0) = some c) (hsig : c.code ≠ monSigtrp) (hp : p = 2 * (c.nparams : Int))
    (hn : s.has (2 + p) = true) (hps : ps = ((s.tops 1 c.nparams).map u16).reverse)
    (ha : a = Config.monHost s.host c.code.toNat ps s.data)
    (hroom : ((s.drop (2 + p)).hostStored c ps a).room
      (2 * (resultWords c (callResults (s.drop (2 + p)) c ps a)).length) = true) :
    exec .mon s = .next ((s.drop (2 + p)).hostAnswered c ps a) := by
  exact exec_mon_eq h hc (by rw [hp]) hn hps (callBody_of_host (u := s.drop (2 + p)) hsig ha)
    ((h.drop (by omega) (by omega) hn).hostStored c ps a) hroom

/-- A code that is not in the table (R407). -/
theorem completes_mon_unknown {s : State} (h : s.Sound) (h2 : s.has 2 = true) (hc : monCall (s.top 0) = none)
    (hd : s.defaultHandling = false) : completes .mon s ((s.drop 2).raiseAll [EMON]) 0 0 := by
  have hx := exec_mon h h2
  rw [hc] at hx
  exact ⟨hx.trans (runOp_of_ok (trap_queues (by decide) hd)), rfl, fun _ _ _ => rfl⟩

/-- Settles O46: `hostAnswered` is what MON leaves; the results are pushed into the gap between SP and HP, where the host
may not store, so neither hides the other. -/
theorem monitorCallConvention : Obligations.MonitorCallConvention := by
  refine ⟨fun s c p r ps a h hc hsig hp hr hn hroom hps ha => ?_,
    fun s h h2 hc hd => completes_mon_unknown ((State.wf_iff_sound s).1 h) h2 hc hd⟩
  have hs := (State.wf_iff_sound s).1 h
  have hu := hs.drop (show 0 ≤ 2 + p by omega) (by omega) hn
  have husp : (s.drop (2 + p)).spI = s.spI - (2 + p) := State.drop_spI h (by omega) hn
  have huroom : (s.drop (2 + p)).room r = true := by
    rw [State.drop_room_iff h (by omega) hn]
    rw [State.room_iff] at hroom
    omega
  have hsp := hu.spI_hostAnswered ps a hr huroom
  refine ⟨(s.drop (2 + p)).hostAnswered c ps a,
    exec_mon_host hs hc hsig hp hn hps ha (State.hostStored_room ps a hr huroom _),
    State.hostAnswered_eq (s.drop (2 + p)) c ps a, by omega, hu.hostAnswered_success ps a hr huroom hc,
    hu.hostAnswered_failure ps a hr huroom,
    fun hread => ⟨length_hostBytes_read ps a hread, hu.hostAnswered_read ps a hr huroom hc hread⟩,
    hostBytes_of_none ps a, fun x hx hpushes hbuffer => ?_⟩
  rw [hu.byte_hostAnswered ps a hr huroom hx (by omega)]
  exact hu.byte_hostStored_outside c ps a hx hbuffer

/-! ## Sigtrp (R405) -/

/-- A table whose numbers all lie above `lo` has no action for a lower one. -/
theorem sigLookup_of_le {lo : Nat} {m : List (Word × SigAction)} (h : sigWfAbove (some lo) m = true) {y : Word}
    (hy : y.toNat ≤ lo) : sigLookup m y = none := by
  induction m generalizing lo with
  | nil => rfl
  | cons e m ih =>
    obtain ⟨g, b⟩ := e
    obtain ⟨hg, hm⟩ := (sigWfAbove_cons (some lo) g b m).1 h
    have hlt := hg lo rfl
    rw [sigLookup, if_neg fun hyg => by rw [hyg] at hy; omega]
    exact ih hm (by omega)

theorem sigLookup_sigCons (x : Word) (act : Option SigAction) {m : List (Word × SigAction)}
    (h : sigWfAbove (some x.toNat) m = true) (y : Word) :
    sigLookup (sigCons x act m) y = if y = x then act else sigLookup m y := by
  cases act with
  | some a => rfl
  | none =>
    split
    · next hyx => exact sigLookup_of_le h (by rw [hyx])
    · rfl

/-- The table after an update: one action changed. -/
theorem sigLookup_sigUpdate (x : Word) (act : Option SigAction) (m : List (Word × SigAction)) : ∀ {lo : Option Nat},
    sigWfAbove lo m = true → ∀ y : Word, sigLookup (sigUpdate m x act) y = if y = x then act else sigLookup m y := by
  induction m with
  | nil => exact fun _ => sigLookup_sigCons x act rfl
  | cons e m ih =>
    obtain ⟨g, b⟩ := e
    intro lo h y
    obtain ⟨_, hm⟩ := (sigWfAbove_cons lo g b m).1 h
    rw [sigUpdate]
    split
    · next hlt =>
      exact sigLookup_sigCons x act ((sigWfAbove_cons _ g b m).2 ⟨fun l hl => by cases hl; exact hlt, hm⟩) y
    · split
      · next hxg =>
        rw [hxg, sigLookup_sigCons g act hm, sigLookup]
        split <;> rfl
      · next hxg =>
        rw [sigLookup, sigLookup, ih hm]
        split
        · next hyg => rw [if_neg fun hyx => hxg (hyx.symm.trans hyg)]
        · rfl

/-- The numbers Sigtrp takes, and the actions they stand for. -/
theorem sigRequest_legal {m : Int} (h : m = -2 ∨ m = -3 ∨ 0 ≤ m ∧ m ≤ 255) :
    ∃ act : Option SigAction, sigRequest m = some act ∧ sigNumber act = m := by
  obtain rfl | rfl | ⟨h0, h1⟩ := h
  · exact ⟨none, rfl, rfl⟩
  · exact ⟨some .ignore, rfl, rfl⟩
  · refine ⟨some (.trap (BitVec.ofInt 8 m)), ?_, ?_⟩
    · rw [sigRequest, if_neg (by omega), if_neg (by omega), if_pos ⟨h0, h1⟩]
    · rw [sigNumber, BitVec.toNat_ofInt]
      omega

theorem sigRequest_illegal {m : Int} (h : m < -3 ∨ m = -1 ∨ 255 < m) : sigRequest m = none := by
  rw [sigRequest, if_neg (by omega), if_neg (by omega), if_neg (by omega)]

theorem s16_u16_sigNumber (act : Option SigAction) : s16 (u16 (sigNumber act)) = sigNumber act := by
  match act with
  | none => rfl
  | some .ignore => rfl
  | some (.trap n) =>
    have hn := n.isLt
    exact s16_u16 (by rw [sigNumber]; omega) (by rw [sigNumber]; omega)

/-- Sigtrp in the table of calls. -/
def sigtrpCall : MonCall := ⟨48, "Sigtrp", 2, true, false, true, none⟩

theorem monCall_sigtrp : monCall 48 = some sigtrpCall := rfl

section
variable {trapno g : Word} (u : State)

theorem callBody_sigtrp : callBody sigtrpCall [trapno, g] = sigtrp trapno g := rfl

/-- A legal request for a signal of the host. -/
theorem sigtrp_accepts (hg : Config.isSignal g = true) {act : Option SigAction}
    (hact : sigRequest (s16 trapno) = some act) :
    ∃ n : Nat, sigtrp trapno g u = .ok (u16 (sigNumber (sigLookup u.sigmap g)), 0#16, 0#16)
      { u with sigmap := sigUpdate u.sigmap g act, host := n } := by
  unfold sigtrp
  rw [hg, hact]
  exact ⟨_, rfl⟩

/-- Anything else: the error number twice, and the table as it was. -/
theorem sigtrp_rejects (hbad : Config.isSignal g = false ∨ sigRequest (s16 trapno) = none) :
    ∃ (n : Nat) (w : Word), sigtrp trapno g u = .ok (errorNumber w, 0#16, errorNumber w) { u with host := n } := by
  unfold sigtrp
  split
  · next hg hact =>
    rw [hg, hact] at hbad
    obtain hbad | hbad := hbad <;> cases hbad
  · exact ⟨_, _, rfl⟩

end

/-- What MON leaves of Sigtrp, of which `v` is the state before the two result words are pushed. -/
theorem exec_mon_sigtrp {s v : State} {g r0 e : Word} (h : s.Sound) (h6 : s.has 6 = true) (h48 : s.top 0 = 48)
    (hg : g = u16 (s.top 1)) (hbody : sigtrp (u16 (s.top 2)) g (s.drop 6) = .ok (r0, 0#16, e) v) (hv : v.Sound)
    (hframe : v = { s.drop 6 with sigmap := v.sigmap, host := v.host }) :
    ∃ t : State, exec .mon s = .next t ∧
      t = { s with sp := t.sp, data := t.data, host := t.host, sigmap := t.sigmap } ∧
      t.spI = s.spI - 2 ∧ storesOnly s t (s.spI - 4) 4 ∧ t.top 0 = s16 e ∧ t.top 1 = s16 r0 ∧
      t.sigmap = v.sigmap := by
  obtain ⟨vs, hvs⟩ : ∃ vs, vs = resultWords sigtrpCall (r0, 0#16, e) := ⟨_, rfl⟩
  have hlength : 2 * (vs.length : Int) = 4 := by rw [hvs]; rfl
  have hvsp : v.spI = s.spI - 6 := by
    rw [← State.drop_spI h.wf (by decide) h6, State.spI, State.spI, congrArg State.sp hframe]
  have hvhp : v.hpI = s.hpI := by
    rw [State.hpI, congrArg State.hp hframe]
    rfl
  have hvbyte (x : Int) : v.byte x = s.byte x := by
    rw [State.byte, congrArg State.data hframe]
    rfl
  have hvroom : v.room (2 * vs.length) = true := by
    have hlt := h.sp_lt
    rw [State.room_iff, hlength, hvsp, hvhp]
    omega
  obtain ⟨_, hsp, _⟩ := hv.pushedAll vs le_rfl (by rwa [Int.add_zero])
  have hstores := hv.storesOnly_pushedAll vs hvroom
  rw [hlength, hvsp] at hsp hstores
  have hps : [u16 (s.top 2), g] = ((s.tops 1 2).map u16).reverse := by rw [hg]; rfl
  have hx : exec .mon s = .next (v.pushedAll vs) := by
    rw [hvs] at hvroom ⊢
    exact exec_mon_eq h ((congrArg monCall h48).trans monCall_sigtrp) rfl h6 hps (callBody_sigtrp ▸ hbody) hv hvroom
  have he : (v.pushedAll vs).word (v.pushedAll vs).spI = e := by
    rw [hvs] at hvroom ⊢
    exact hv.word_error hvroom rfl
  have hr0 : (v.pushedAll vs).word (v.spI + 2) = r0 := by
    rw [hvs] at hvroom ⊢
    exact hv.word_r0 hvroom rfl
  refine ⟨v.pushedAll vs, hx, ?_, by omega, fun x hx0 hout => ?_, ?_, ?_, ?_⟩
  · rw [State.pushedAll_eq, hframe]
    rfl
  · rw [← hvbyte]
    exact hstores x hx0 (by omega)
  · rw [State.top, Int.mul_zero, Int.sub_zero, he]
  · rw [State.top, show (v.pushedAll vs).spI - 2 * 1 = v.spI + 2 by omega, hr0]
  · rw [State.pushedAll_eq]

/-- Settles O47, by the two ways Sigtrp goes: the argument is legal and the table is updated, or it is not. -/
theorem sigtrpRecordsTheAction : Obligations.SigtrpRecordsTheAction := by
  intro s g m h h6 h48 hg hm
  have hs := (State.wf_iff_sound s).1 h
  have hu := hs.drop (by decide) (by decide) h6
  have htrapno : s16 (u16 (s.top 2)) = m := by rw [hm, State.top, u16_s16]
  rw [← u16_top_one s] at hg
  by_cases hlegal : Config.isSignal g = true ∧ (m = -2 ∨ m = -3 ∨ 0 ≤ m ∧ m ≤ 255)
  · obtain ⟨hsignal, hrange⟩ := hlegal
    obtain ⟨act, hact, hnumber⟩ := sigRequest_legal hrange
    obtain ⟨n, hbody⟩ := sigtrp_accepts (trapno := u16 (s.top 2)) (s.drop 6) hsignal (by rw [htrapno, hact])
    obtain ⟨t, hx, hrest, hsp, hstores, htop, hprevious, hsigmap⟩ := exec_mon_sigtrp hs h6 h48 hg hbody
      ((Update.sigUpdate (K := anyUpdate) g act n).sound hu) rfl
    have hlookup (y : Word) : sigLookup t.sigmap y = if y = g then act else sigLookup s.sigmap y := by
      rw [hsigmap]
      exact sigLookup_sigUpdate g act s.sigmap hs.sigmap_wf y
    refine ⟨t, hx, hrest, hsp, hstores, fun _ _ => ⟨htop, ?_, ?_, fun y hy => ?_⟩, fun hbad => ?_⟩
    · exact hprevious.trans (s16_u16_sigNumber _)
    · rw [hlookup, if_pos rfl, hnumber]
    · rw [hlookup, if_neg hy]
    · rw [hsignal] at hbad
      obtain hbad | hbad := hbad
      · cases hbad
      · omega
  · have hreject : Config.isSignal g = false ∨ sigRequest (s16 (u16 (s.top 2))) = none := by
      cases hsignal : Config.isSignal g with
      | false => exact .inl rfl
      | true =>
        have hrange : ¬ (m = -2 ∨ m = -3 ∨ 0 ≤ m ∧ m ≤ 255) := fun hrange => hlegal ⟨hsignal, hrange⟩
        rw [htrapno]
        exact .inr (sigRequest_illegal (by omega))
    obtain ⟨n, w, hbody⟩ := sigtrp_rejects (s.drop 6) hreject
    obtain ⟨t, hx, hrest, hsp, hstores, htop, hr0, hsigmap⟩ := exec_mon_sigtrp hs h6 h48 hg hbody
      ((Update.storeAdmitted (K := anyUpdate) 0 [] n).sound hu) rfl
    exact ⟨t, hx, hrest, hsp, hstores, fun hsignal hrange => absurd ⟨hsignal, hrange⟩ hlegal,
      fun _ => ⟨htop ▸ s16_errorNumber_ne_zero w, hr0.trans htop.symm, hsigmap⟩⟩

end Sys2Proof.Machine
end
